-- ==== Sys2Proof/Word.lean ====
section
/-! DEFINITION. The words of the SC410: the byte of a frame and the raw code of an ADC lane. -/

namespace Sys2Proof

/-- One character of the host link (R206), one intensity of a plane (R147) or one palette index of an overlay
buffer (R168). -/
abbrev Byte := BitVec 8

/-- One raw ADC code of a lane, two's complement, -512..511 (4.5 Sample Calibration). -/
abbrev RawCode := BitVec 10

end Sys2Proof
end

