-- ==== Sys2Proof/Syntax.lean ====
section
/-! DEFINITION. The commands of the SC410: one constructor for each row of spec/opcode_table.json, in the table's
order. A host request carries the tag and the payload bytes of its frame (Table 51, Table 52); an event at a pin carries
what the pin delivers; an announcement or the end of a timer carries nothing beyond the choice of order that the rules
leave open. -/

namespace Sys2Proof

/-- The strap pins (Table 2): the two rate pins, FACTORY and AUTO_ON. `true` is high. -/
structure Straps where
  autoOn : Bool
  factory : Bool
  rateA : Bool
  rateB : Bool
  deriving DecidableEq, Repr

/-- Which blocks take a GEOM announcement in one step, and in what order: R97 lets the Record Ring and the Acquisition
Engine take it in either order. -/
inductive GeomOrder where
  | ringFirst
  | engineFirst
  | ringOnly
  | engineOnly
  deriving DecidableEq, Repr

/-- The order in which the Setup Controller (s), the Record Ring (r) and the Acquisition Engine (e) take a RESET: R102
and R123 let each come before or after the others. -/
inductive BlockOrder where
  | sre
  | ser
  | rse
  | res
  | esr
  | ers
  deriving DecidableEq, Repr

/-- How a RESET falls among what the rules leave open: the order of the three blocks, and whether steps 1 to 3 of a load in
flight have been made before it (R203 lets a RESET come before or after step 3 of R194). -/
structure ResetOrder where
  blocks : BlockOrder
  afterHandover : Bool
  deriving DecidableEq, Repr

/-- A RELEASE_RECORD: its payload, and whether a withdrawal of the engine's claim falls together with it, the release being
taken first: an offer that the release makes is then still on its way (R109). -/
structure Release where
  payload : List Byte
  offerWaits : Bool
  deriving DecidableEq, Repr

/-- The commands of the block. -/
inductive Instr where
  | setField (tag : Byte) (payload : List Byte)
  | getField (tag : Byte) (payload : List Byte)
  | getGroup (tag : Byte) (payload : List Byte)
  | setGroup (tag : Byte) (payload : List Byte)
  | defaultSetup (tag : Byte) (payload : List Byte)
  | undo (tag : Byte) (payload : List Byte)
  | getUndoDepth (tag : Byte) (payload : List Byte)
  /-- `raw` bit p is 1 when the contact at position p reads down. -/
  | keyScan (raw : BitVec 64)
  | keyPress (p : Fin 64)
  | keyRelease (p : Fin 64)
  | keyRepeat (p : Fin 64)
  | getKeys (tag : Byte) (payload : List Byte)
  | setKeyAction (tag : Byte) (payload : List Byte)
  | getKeyAction (tag : Byte) (payload : List Byte)
  /-- Encoder `e` now presents the phase pair (`a`, `b`). -/
  | encoderTransition (e : Fin 12) (a b : Bool)
  | encoderWindowEnd (e : Fin 12)
  | setBinding (tag : Byte) (payload : List Byte)
  | getBinding (tag : Byte) (payload : List Byte)
  | ledBlinkToggle
  | setLed (tag : Byte) (payload : List Byte)
  | getLeds (tag : Byte) (payload : List Byte)
  | beep (tag : Byte) (payload : List Byte)
  | toneEnd
  | getPanelStatus (tag : Byte) (payload : List Byte)
  | feSetupAnnouncement
  | feLatch
  | settleTimerEnd
  | feReadyRise
  | feReadyFall
  | readyWaitExpiry
  | getFeStatus (tag : Byte) (payload : List Byte)
  | settlingBegan
  | settlingEnded
  | faultAnnouncement
  | faultCleared
  | feClassChange
  | acqClassChange
  | geomClassChange (order : GeomOrder)
  | trigClassChange
  /-- The raw codes of the four lanes and the level of EXT at one nanosecond. -/
  | sample (r1 r2 r3 r4 : RawCode) (ext : Bool)
  | intervalComplete
  /-- `measFirst`, `dispFirst`: whether the Measurement Unit and the Waveform Display take the commit announcement
  before the next capture's claim is made (R90, R126, R149 leave it open). -/
  | captureComplete (measFirst dispFirst : Bool)
  | holdoffExpiry
  | autoTimerExpiry
  | rateGateEnd
  | run (tag : Byte) (payload : List Byte)
  | stop (tag : Byte) (payload : List Byte)
  | single (tag : Byte) (payload : List Byte)
  | forceTrigger (tag : Byte) (payload : List Byte)
  | getAcqStatus (tag : Byte) (payload : List Byte)
  | failStop
  | gateOpened (measFirst dispFirst : Bool)
  | rebuildAnnouncement
  | holdRecord (tag : Byte) (payload : List Byte)
  | readPoints (tag : Byte) (payload : List Byte)
  | releaseRecord (tag : Byte) (release : Release)
  | listRecords (tag : Byte) (payload : List Byte)
  | clear (tag : Byte) (payload : List Byte)
  | measCommitTaken
  | measRingAnnouncement
  | measClassChange
  | evaluationComplete
  | limitTimerExpiry
  | getResults (tag : Byte) (payload : List Byte)
  | clearStats (tag : Byte) (payload : List Byte)
  | clearFail (tag : Byte) (payload : List Byte)
  | limitOut (tag : Byte) (payload : List Byte)
  | frameStart
  | rasterCommitTaken
  | rasterComplete
  | displaySetupAnnouncement
  | displayRingAnnouncement
  | showRecord (tag : Byte) (payload : List Byte)
  | cursorRead (tag : Byte) (payload : List Byte)
  | clearDisplay (tag : Byte) (payload : List Byte)
  | getDisplayStatus (tag : Byte) (payload : List Byte)
  | draw (tag : Byte) (payload : List Byte)
  | drawRecordComplete
  | presentCopyComplete
  | setPalette (tag : Byte) (payload : List Byte)
  | getOverlayStatus (tag : Byte) (payload : List Byte)
  | save (tag : Byte) (payload : List Byte)
  | recall (tag : Byte) (payload : List Byte)
  | erase (tag : Byte) (payload : List Byte)
  | listSlots (tag : Byte) (payload : List Byte)
  | calWrite (tag : Byte) (payload : List Byte)
  | calRead (tag : Byte) (payload : List Byte)
  | storeWriteComplete
  | loadComplete
  /-- The strap levels that the part finds. -/
  | supplyReset (straps : Straps)
  | holdTimerExpiry
  | standby (tag : Byte) (payload : List Byte)
  | graceTimerExpiry
  | getPower (tag : Byte) (payload : List Byte)
  /-- `b` is the byte whose arrival completes the frame. -/
  | frameReceived (b : Byte)
  /-- `b` is the byte whose arrival refuses the frame in progress. -/
  | frameRefused (b : Byte)
  | interByteTimeout
  | breakDetected
  | breakEnd
  /-- A frame with a code that names no request. -/
  | dispatchBadCode (tag code : Byte) (payload : List Byte)
  | transmitFrameEnd
  | keyNoticeMove
  | setNotices (tag : Byte) (payload : List Byte)
  | getStatus (tag : Byte) (payload : List Byte)
  | clearLinkErrors (tag : Byte) (payload : List Byte)
  | reset (order : ResetOrder) (tag : Byte) (payload : List Byte)
  | receivedByte (b : Byte)
  deriving DecidableEq, Repr

end Sys2Proof
end

