-- ==== Sys2Proof/Config.lean ====
section
/-! DEFINITION. What the part fixes and the data sheet does not give: uninterpreted constants, without a body. -/

namespace Sys2Proof

/-- Whether pixel `i` (0..127, row by row from the top left of the 8 by 16 cell) of the glyph of a character code is
foreground, for the codes 33..126 and 128..159, whose patterns R176 says are fixed in the device and not given in the
data sheet. A free value (log entry 3). -/
opaque Config.glyphPixel : Byte → Nat → Bool

/-- How many hits of a rasterisation have landed at the `k`-th abandonment of the run: R151 lets the hits land
progressively and gives no count, and R152 keeps those that have landed. A free value (log entry 4). -/
opaque Config.hitsLanded : Nat → Nat

/-- Which side a fail hold takes when a result lies below MLO and above MHI by the same excess (true is HIGH), from MLO,
MHI and the result: R135 names the side of the larger excess and none for equal ones. A free value (log entry 7). -/
opaque Config.failSideAtTie : Int → Int → Int → Bool

end Sys2Proof
end

