-- ==== Sys2Proof/Machine/Num.lean ====
section
/-! DEFINITION. The arithmetic of 1.6.2 (R2) and the byte layouts of R220: rounding, integer roots, clamping,
saturating counters, little-endian quantities. -/

namespace Sys2Proof.Machine

/-- "Rounded" of R2: `a / b` to the nearest integer, halves away from zero. -/
def roundDiv (a b : Int) : Int :=
  let q : Nat := (2 * a.natAbs + b.natAbs) / (2 * b.natAbs)
  if decide (a < 0) = decide (b < 0) then (q : Int) else -(q : Int)

/-- "clamp(x, a, b)" of R2. -/
def clampI (x lo hi : Int) : Int := max lo (min x hi)

/-- A counter described as saturating (R2): `x` plus `n`, stopping at `top`. -/
def satAdd (top x n : Nat) : Nat := min top (x + n)

/-- The largest value of a 16-bit counter. -/
def top16 : Nat := 65535

/-- The largest value of a 32-bit counter. -/
def top32 : Nat := 4294967295

/-- The largest `r` made of the bits below `k` added to `r0` whose square does not exceed `x`. -/
def isqrtFrom (x : Nat) : Nat → Nat → Nat
  | 0, r => r
  | k + 1, r => if (r + 2 ^ k) * (r + 2 ^ k) ≤ x then isqrtFrom x k (r + 2 ^ k) else isqrtFrom x k r

/-- The integer square root, rounded down, of a number below 2^192. -/
def isqrt (x : Nat) : Nat := isqrtFrom x 96 0

/-- "Integer root" of R2: the integer nearest the exact square root of `p / q`, halves upward. -/
def rootDiv (p q : Nat) : Nat := (isqrt (4 * p / q) + 1) / 2

/-- Smallest and largest of a list of integers, `0` for an empty list. -/
def minOf : List Int → Int
  | [] => 0
  | x :: xs => xs.foldl min x

/-- See `minOf`. -/
def maxOf : List Int → Int
  | [] => 0
  | x :: xs => xs.foldl max x

/-- The last `n` members of a list, in order. -/
def lastN {α : Type} (n : Nat) (l : List α) : List α := l.drop (l.length - n)

/-- `n` bytes of `v`, least significant first (R220). -/
def leBytes : Nat → Nat → List Byte
  | 0, _ => []
  | n + 1, v => BitVec.ofNat 8 v :: leBytes n (v / 256)

/-- `n` bytes of a signed quantity in two's complement, least significant first (R220). -/
def leInt (n : Nat) (v : Int) : List Byte := leBytes n (v % (2 ^ (8 * n) : Nat)).toNat

/-- The unsigned quantity that bytes hold, least significant first (R220). -/
def readLe : List Byte → Nat
  | [] => 0
  | b :: bs => b.toNat + 256 * readLe bs

/-- A quantity of `n` bits read as two's complement. -/
def toSigned (n v : Nat) : Int := if v < 2 ^ (n - 1) then (v : Int) else (v : Int) - (2 ^ n : Nat)

/-- The unsigned argument of `n` bytes at an offset of a payload. -/
def argU (p : List Byte) (off n : Nat) : Nat := readLe ((p.drop off).take n)

/-- The signed argument of `n` bytes at an offset of a payload. -/
def argS (p : List Byte) (off n : Nat) : Int := toSigned (8 * n) (argU p off n)

/-- One byte of a number below 256. -/
def byte (n : Nat) : Byte := BitVec.ofNat 8 n

/-- A flag, presence or level item: 0 clear, 1 set (Table 58). -/
def flagByte (b : Bool) : Byte := if b then 1 else 0

/-- The CRC register of R221 after one byte: the byte is added into its upper eight bits and the register is shifted
left eight times, with 1021h added at each shift that moves a 1 out of the top. -/
def crcShift : Nat → BitVec 16 → BitVec 16
  | 0, r => r
  | n + 1, r => crcShift n (if r.msb then (r <<< 1) ^^^ 0x1021#16 else r <<< 1)

/-- The CRC of R221 over the bytes in order, from FFFFh, no final inversion. -/
def crc16 (bs : List Byte) : BitVec 16 :=
  bs.foldl (fun r b => crcShift 8 (r ^^^ (BitVec.setWidth 16 b) <<< (8 : Nat))) 0xFFFF#16

end Sys2Proof.Machine
end

