-- ==== Sys2Proof/Machine/Fields.lean ====
section
/-! DEFINITION. The live setup's fields (Table 8), their value tables (Tables 9 and 10) and groups (Table 11). -/

namespace Sys2Proof.Machine

/-- The three field kinds of R3. -/
inductive FieldKind where
  | number
  | index
  | choice
  deriving DecidableEq, Repr

/-- The field classes of Table 12. -/
inductive FieldClass where
  | fe
  | acq
  | geom
  | trig
  | disp
  | meas
  | panel
  deriving DecidableEq, Repr

/-- One row of Table 8. A CHOICE set is numbered from 0 without gaps (R6), so its range is `0..hi`. -/
structure FieldInfo where
  id : Nat
  kind : FieldKind
  lo : Int
  hi : Int
  dflt : Int
  cls : FieldClass
  deriving DecidableEq, Repr

/-- Ids of the channel fields, for the channel of index `c` (channel n = c + 1, id 10n + k). -/
def idChOn (c : Fin 4) : Nat := 10 * (c.val + 1)
/-- See `idChOn`. -/
def idVdiv (c : Fin 4) : Nat := 10 * (c.val + 1) + 1
/-- See `idChOn`. -/
def idPos (c : Fin 4) : Nat := 10 * (c.val + 1) + 2
/-- See `idChOn`. -/
def idCoupling (c : Fin 4) : Nat := 10 * (c.val + 1) + 3
/-- See `idChOn`. -/
def idBwl (c : Fin 4) : Nat := 10 * (c.val + 1) + 4
/-- TDIV -/
def idTdiv : Nat := 50
/-- HPOS -/
def idHpos : Nat := 51
/-- RECLEN -/
def idReclen : Nat := 52
/-- ACQMODE -/
def idAcqmode : Nat := 53
/-- SEGMENTED -/
def idSegmented : Nat := 54
/-- TSRC -/
def idTsrc : Nat := 60
/-- TTYPE -/
def idTtype : Nat := 61
/-- TSLOPE -/
def idTslope : Nat := 62
/-- TLEVEL -/
def idTlevel : Nat := 63
/-- TNOISE -/
def idTnoise : Nat := 64
/-- TMODE -/
def idTmode : Nat := 65
/-- TWCOND -/
def idTwcond : Nat := 66
/-- TWIDTH -/
def idTwidth : Nat := 67
/-- HOLDOFF -/
def idHoldoff : Nat := 68
/-- PERSIST -/
def idPersist : Nat := 70
/-- INTENSITY -/
def idIntensity : Nat := 71
/-- GRATICULE -/
def idGraticule : Nat := 72
/-- CURSOR -/
def idCursor : Nat := 73
/-- CURSRC -/
def idCursrc : Nat := 74
/-- TCUR_A -/
def idTcurA : Nat := 75
/-- TCUR_B -/
def idTcurB : Nat := 76
/-- VCUR_A -/
def idVcurA : Nat := 77
/-- VCUR_B -/
def idVcurB : Nat := 78
/-- BACKLIGHT -/
def idBacklight : Nat := 79
/-- The `k`-th field of measurement slot `m`: MKIND, MSRC, MLO_ON, MLO, MHI_ON, MHI for k = 0..5. -/
def idSlot (m : Fin 6) (k : Nat) : Nat := 100 + 10 * m.val + k
/-- ZEROBAND -/
def idZeroband : Nat := 160
/-- FAILSTOP -/
def idFailstop : Nat := 161
/-- FAILBEEP -/
def idFailbeep : Nat := 162
/-- LOUT_ASSERT -/
def idLoutAssert : Nat := 163
/-- LOUT_RELEASE -/
def idLoutRelease : Nat := 164
/-- LOUT_POL -/
def idLoutPol : Nat := 165
/-- KEYCLICK -/
def idKeyclick : Nat := 170

/-- The five rows of Table 8 for one channel; CH_ON is on by default for CH1 alone. -/
def channelFields (c : Fin 4) : List FieldInfo :=
  [ ⟨idChOn c, .choice, 0, 1, if c = 0 then 1 else 0, .acq⟩,
    ⟨idVdiv c, .index, 0, 12, 9, .fe⟩,
    ⟨idPos c, .number, -250, 250, 0, .disp⟩,
    ⟨idCoupling c, .choice, 0, 2, 0, .fe⟩,
    ⟨idBwl c, .choice, 0, 1, 0, .fe⟩ ]

/-- The bound 2^62 of MLO and MHI (R6). -/
def limitBound : Int := 4611686018427387904

/-- The six rows of Table 8 for one measurement slot. -/
def slotFields (m : Fin 6) : List FieldInfo :=
  [ ⟨idSlot m 0, .choice, 0, 9, 0, .meas⟩,
    ⟨idSlot m 1, .choice, 0, 3, 0, .meas⟩,
    ⟨idSlot m 2, .choice, 0, 1, 0, .meas⟩,
    ⟨idSlot m 3, .number, -limitBound, limitBound, 0, .meas⟩,
    ⟨idSlot m 4, .choice, 0, 1, 0, .meas⟩,
    ⟨idSlot m 5, .number, -limitBound, limitBound, 0, .meas⟩ ]

/-- The timebase rows of Table 8. -/
def timebaseFields : List FieldInfo :=
  [ ⟨idTdiv, .index, 0, 31, 8, .acq⟩,
    ⟨idHpos, .number, 0, 1000, 500, .acq⟩,
    ⟨idReclen, .index, 0, 8, 4, .geom⟩,
    ⟨idAcqmode, .choice, 0, 2, 0, .geom⟩,
    ⟨idSegmented, .choice, 0, 1, 0, .acq⟩ ]

/-- The trigger rows of Table 8. -/
def triggerFields : List FieldInfo :=
  [ ⟨idTsrc, .choice, 0, 4, 0, .trig⟩,
    ⟨idTtype, .choice, 0, 1, 0, .trig⟩,
    ⟨idTslope, .choice, 0, 2, 0, .trig⟩,
    ⟨idTlevel, .number, -512, 511, 0, .trig⟩,
    ⟨idTnoise, .choice, 0, 1, 0, .trig⟩,
    ⟨idTmode, .choice, 0, 1, 0, .trig⟩,
    ⟨idTwcond, .choice, 0, 1, 1, .trig⟩,
    ⟨idTwidth, .number, 2, 4000000000, 1000, .trig⟩,
    ⟨idHoldoff, .number, 0, 4000000000, 0, .trig⟩ ]

/-- The display rows of Table 8. -/
def displayFields : List FieldInfo :=
  [ ⟨idPersist, .choice, 0, 3, 0, .disp⟩,
    ⟨idIntensity, .number, 0, 100, 60, .disp⟩,
    ⟨idGraticule, .choice, 0, 2, 0, .disp⟩,
    ⟨idCursor, .choice, 0, 2, 0, .disp⟩,
    ⟨idCursrc, .choice, 0, 3, 0, .disp⟩,
    ⟨idTcurA, .number, 0, 499, 150, .disp⟩,
    ⟨idTcurB, .number, 0, 499, 350, .disp⟩,
    ⟨idVcurA, .number, 0, 399, 100, .disp⟩,
    ⟨idVcurB, .number, 0, 399, 300, .disp⟩,
    ⟨idBacklight, .number, 10, 100, 80, .disp⟩ ]

/-- The global rows of Table 8. -/
def globalFields : List FieldInfo :=
  [ ⟨idZeroband, .number, 0, 15, 2, .meas⟩,
    ⟨idFailstop, .choice, 0, 1, 0, .meas⟩,
    ⟨idFailbeep, .choice, 0, 1, 0, .meas⟩,
    ⟨idLoutAssert, .number, 0, 10000, 0, .meas⟩,
    ⟨idLoutRelease, .number, 0, 10000, 0, .meas⟩,
    ⟨idLoutPol, .choice, 0, 1, 0, .meas⟩,
    ⟨idKeyclick, .choice, 0, 1, 1, .panel⟩ ]

/-- Table 8: the 87 fields in increasing id order (R6). -/
def fieldTable : List FieldInfo :=
  channelFields 0 ++ channelFields 1 ++ channelFields 2 ++ channelFields 3 ++ timebaseFields ++ triggerFields ++
    displayFields ++ slotFields 0 ++ slotFields 1 ++ slotFields 2 ++ slotFields 3 ++ slotFields 4 ++ slotFields 5 ++
    globalFields

theorem fieldTable_length : fieldTable.length = 87 := by decide

/-- The row of Table 8 at a position 0..86. -/
def fieldInfo (i : Fin 87) : FieldInfo := fieldTable[i.val]'(by rw [fieldTable_length]; exact i.isLt)

/-- The position in Table 8 of a numeric id; none when the id names no field (R6). -/
def fieldIx (id : Nat) : Option (Fin 87) :=
  let k := fieldTable.findIdx (fun f => f.id == id)
  if h : k < 87 then some ⟨k, h⟩ else none

/-- The class of a field. -/
def fieldClass (i : Fin 87) : FieldClass := (fieldInfo i).cls

/-- Whether a value lies within a field's range or set (R10). -/
def FieldInfo.admits (f : FieldInfo) (v : Int) : Bool := decide (f.lo ≤ v ∧ v ≤ f.hi)

/-- A complete set of the 87 values, in increasing id order. -/
abbrev SetupVals := Vector Int 87

/-- The defaults of Table 8. -/
def defaultVals : SetupVals := Vector.ofFn (fun i => (fieldInfo i).dflt)

/-- The value of a field by id; 0 for an id that names no field. -/
def SetupVals.at (v : SetupVals) (id : Nat) : Int :=
  match fieldIx id with
  | some i => v[i]
  | none => 0

/-- Table 9: V_div in microvolts. -/
def vdivTable : List Nat :=
  [1000, 2000, 5000, 10000, 20000, 50000, 100000, 200000, 500000, 1000000, 2000000, 5000000, 10000000]

/-- V_div of a VDIV index (R7). -/
def vdivOf (ix : Int) : Nat := vdivTable.getD ix.toNat 0

/-- Table 10: t_div in nanoseconds. -/
def tdivTable : List Nat :=
  [2, 5, 10, 20, 50, 100, 200, 500, 1000, 2000, 5000, 10000, 20000, 50000, 100000, 200000, 500000, 1000000, 2000000,
    5000000, 10000000, 20000000, 50000000, 100000000, 200000000, 500000000, 1000000000, 2000000000, 5000000000,
    10000000000, 20000000000, 50000000000]

/-- t_div of a TDIV index (R7). -/
def tdivOf (ix : Int) : Nat := tdivTable.getD ix.toNat 0

/-- The group of a field (Table 11). -/
def groupOf (id : Nat) : Nat :=
  if id < 50 then id / 10 - 1
  else if id < 60 then 4
  else if id < 70 then 5
  else if id < 100 then 6
  else if id < 160 then 7 + (id - 100) / 10
  else 13

/-- The fields of a group in increasing id order (R8). -/
def groupFields (g : Nat) : List (Fin 87) :=
  (List.finRange 87).filter (fun i => groupOf (fieldInfo i).id == g)

/-- The quantities of Table 25 (R75). -/
structure Geom where
  span : Nat
  w : Nat
  leff : Nat
  dExp : Nat
  p : Nat
  npre : Nat
  start : Nat
  deriving DecidableEq, Repr

/-- The smallest exponent `k` with `leff * 2^k` at least `span` (Table 25, D; the largest is 29). -/
def decimationExp (span leff : Nat) : Nat :=
  ((List.range 30).find? (fun k => decide (span ≤ leff * 2 ^ k))).getD 29

/-- R75: the geometry quantities of a TDIV index, a RECLEN index, an ACQMODE and an HPOS. -/
def geomOf (tdiv reclen mode hpos : Int) : Geom :=
  let span := 10 * tdivOf tdiv
  let w := if mode = 1 then 2 else 1
  let leff := min (1024 * 2 ^ reclen.toNat) (262144 / w)
  let k := decimationExp span leff
  let p := span / 2 ^ k
  let npre := leff * hpos.toNat / 1000
  ⟨span, w, leff, k, p, npre, npre - p * hpos.toNat / 1000⟩

/-- R105: the ring capacity of a geometry. -/
def capacityOf (leff w : Nat) : Nat := min 64 (262144 / (leff * w))

end Sys2Proof.Machine
end

