-- ==== Sys2Proof/Machine/Types.lean ====
section
/-! DEFINITION. The data that State is made of, block by block (Table 1), with the numbers of Tables 53, 55, 56 and
58 for the enumerated values. -/

namespace Sys2Proof.Machine

/-! ### Addressed buffers: intensity planes and overlay buffers -/

/-- An addressed buffer of bytes in canonical form: addresses strictly rising, and no entry equal to 0, which is what an
unlisted address reads as (R147 and R168 give 0 for every pixel after a supply reset). -/
abbrev Memory := List Host.Cell

/-! ### The live setup (chapter 2) -/

/-- The sources of a setup change (1.5; numbers of Table 55). -/
inductive Source where
  | knob
  | key
  | host
  | undo
  | recall
  | dflt
  | powerUp
  | reset
  deriving DecidableEq, Repr

def Source.code : Source → Nat
  | .knob => 0 | .key => 1 | .host => 2 | .undo => 3 | .recall => 4 | .dflt => 5 | .powerUp => 6 | .reset => 7

/-- The reason of a SETUP_REPLACED notice (R18). -/
inductive Reason where
  | normal
  | lastInvalid
  deriving DecidableEq, Repr

def Reason.code : Reason → Nat
  | .normal => 0 | .lastInvalid => 1

/-- One field's change: its id, its value before and its value after. -/
structure Change where
  id : Nat
  old : Int
  new : Int
  deriving DecidableEq, Repr

/-- An announcement of the Setup Controller (R9). `whole` marks a replacement with source POWER_UP or RESET, which
informs every block whatever changed (R17). -/
structure SetupAnn where
  changes : List Change
  whole : Bool
  source : Source
  gen : Nat
  deriving DecidableEq, Repr

/-- An entry of the undo stack (R19). -/
inductive UndoEntry where
  | field (i : Fin 87) (prev : Int) (source : Source) (enc : Option (Fin 12)) (timeMs : Nat)
  | snapshot (vals : SetupVals)
  deriving DecidableEq, Repr

/-- The Setup Controller (R6, R13, R19). -/
structure SetupCtl where
  live : SetupVals
  gen : Nat
  /-- oldest first -/
  undo : List UndoEntry
  deriving DecidableEq, Repr

/-! ### Statuses, frames, notices, queues of the link (chapters 12 and 13) -/

/-- Table 6. -/
inductive Status where
  | ok
  | clamped
  | badCode
  | badLength
  | badField
  | badValue
  | busy
  | notNow
  | empty
  | corrupt
  | noSlot
  | queueFull
  | nothingToUndo
  | standbyAborted
  | writeOnce
  deriving DecidableEq, Repr

/-- Table 53. -/
def Status.code : Status → Nat
  | .ok => 0 | .clamped => 1 | .badCode => 2 | .badLength => 3 | .badField => 4 | .badValue => 5 | .busy => 6
  | .notNow => 7 | .empty => 8 | .corrupt => 9 | .noSlot => 10 | .queueFull => 11 | .nothingToUndo => 12
  | .standbyAborted => 13 | .writeOnce => 14

/-- The kind of a key event (R34). -/
inductive KeyEvKind where
  | press
  | release
  | repeated
  deriving DecidableEq, Repr

def KeyEvKind.code : KeyEvKind → Nat
  | .press => 0 | .release => 1 | .repeated => 2

/-- An event of the key event queue (R34). -/
structure KeyEvent where
  pos : Fin 64
  kind : KeyEvKind
  time : Nat
  lostBefore : Bool
  deriving DecidableEq, Repr

/-- The acquisition states in the order of Table 27. -/
inductive AcqSt where
  | stopped
  | settling
  | waitSlot
  | pausedGeometry
  | preFill
  | armed
  | postFill
  | commitWait
  deriving DecidableEq, Repr

def AcqSt.code : AcqSt → Nat
  | .stopped => 0 | .settling => 1 | .waitSlot => 2 | .pausedGeometry => 3 | .preFill => 4 | .armed => 5
  | .postFill => 6 | .commitWait => 7

inductive RunMode where
  | run
  | single
  deriving DecidableEq, Repr

def RunMode.code : RunMode → Nat
  | .run => 0 | .single => 1

/-- The causes of an ACQ_STATE notice in the order of the table of R103. -/
inductive AcqCause where
  | request
  | key
  | singleDone
  | segmentsFull
  | failStop
  | feFault
  | power
  | reset
  deriving DecidableEq, Repr

def AcqCause.code : AcqCause → Nat
  | .request => 0 | .key => 1 | .singleDone => 2 | .segmentsFull => 3 | .failStop => 4 | .feFault => 5 | .power => 6
  | .reset => 7

/-- The causes of a trigger (R86; numbers of R224). -/
inductive TrigCause where
  | triggered
  | auto
  | forced
  deriving DecidableEq, Repr

def TrigCause.code : TrigCause → Nat
  | .triggered => 0 | .auto => 1 | .forced => 2

/-- Verdicts (R136; numbers of Table 55). -/
inductive Verdict where
  | none
  | pass
  | fail
  deriving DecidableEq, Repr

def Verdict.code : Verdict → Nat
  | .none => 0 | .pass => 1 | .fail => 2

/-- The states of the limit line (R141). -/
inductive LineSt where
  | deasserted
  | assertPending
  | asserted
  | releasePending
  deriving DecidableEq, Repr

def LineSt.code : LineSt → Nat
  | .deasserted => 0 | .assertPending => 1 | .asserted => 2 | .releasePending => 3

/-- The statuses of a slot result (R124). -/
inductive ResStatus where
  | valid
  | zeroed
  | noResult
  | noRecord
  deriving DecidableEq, Repr

def ResStatus.code : ResStatus → Nat
  | .valid => 0 | .zeroed => 1 | .noResult => 2 | .noRecord => 3

/-- The kinds of an evaluation (R124). -/
inductive EvalKind where
  | first
  | re
  deriving DecidableEq, Repr

def EvalKind.code : EvalKind → Nat
  | .first => 0 | .re => 1

/-- A slot result (R124). `record` is absent with status NO_RECORD. -/
structure SlotResult where
  value : Int
  status : ResStatus
  clipped : Bool
  record : Option Nat
  origin : EvalKind
  deriving DecidableEq, Repr

/-- The link error causes (R209 to R211; numbers of Table 55). -/
inductive LinkErr where
  | kind
  | length
  | timeout
  | crc
  | overrun
  | brk
  deriving DecidableEq, Repr

/-- The number of a link error cause, an index into the error counters. -/
def LinkErr.ix : LinkErr → Fin 6
  | .kind => 0 | .length => 1 | .timeout => 2 | .crc => 3 | .overrun => 4 | .brk => 5

/-- A notice with its content (Table 54). -/
inductive Notice where
  | key (ev : KeyEvent)
  | knob (enc : Fin 12) (count : Int) (time : Nat)
  | setupChanged (id : Nat) (value : Int) (source : Source) (gen : Nat)
  | setupReplaced (source : Source) (gen : Nat) (reason : Reason)
  | acqState (st : AcqSt) (mode : RunMode) (cause : AcqCause)
  | limit (verdict : Verdict) (record : Nat) (failed : List (Fin 6)) (line : LineSt)
  | recordDone (number : Nat) (trigTime : Nat) (cause : TrigCause)
  | measResult (record : Nat) (kind : EvalKind) (results : Vector SlotResult 6)
  | presented (count : Nat)
  | linkError (cause : LinkErr) (tag : Option Byte)
  | powerKey (time : Nat)
  | noticesLost (count : Nat)
  deriving DecidableEq, Repr

/-- The mask bit of a notice: its code is 80h plus this number (R222). -/
def Notice.ix : Notice → Nat
  | .key _ => 0 | .knob _ _ _ => 1 | .setupChanged _ _ _ _ => 2 | .setupReplaced _ _ _ => 3 | .acqState _ _ _ => 4
  | .limit _ _ _ _ => 5 | .recordDone _ _ _ => 6 | .measResult _ _ _ => 7 | .presented _ => 8 | .linkError _ _ => 9
  | .powerKey _ => 10 | .noticesLost _ => 11

/-- A frame (Table 51), less its start mark, length and CRC, which follow from the rest. -/
structure Frame where
  kind : Byte
  tag : Byte
  code : Byte
  status : Byte
  payload : List Byte
  deriving DecidableEq, Repr

/-- A reply waiting in the reply queue (R212). -/
structure Reply where
  tag : Byte
  code : Byte
  status : Status
  payload : List Byte
  deriving DecidableEq, Repr

/-- A reservation of a place of the reply queue for a long operation (R213). -/
structure Reservation where
  tag : Byte
  code : Byte
  deriving DecidableEq, Repr

/-- The frame in transmission and the time at which it ends. -/
structure Transmission where
  frame : Frame
  endAt : Nat
  deriving DecidableEq, Repr

/-- The receiver (R208). In a frame it keeps the bytes received after the start mark; HEADER, PAYLOAD and CHECK follow
from their number and the length they give. -/
inductive Receiver where
  | hunt
  | inFrame (bytes : List Byte)
  | brk
  deriving DecidableEq, Repr

/-- The Link Interface (chapter 12). -/
structure Link where
  up : Bool
  /-- the rate in Mbit/s held since the last entry to UP (R206) -/
  rate : Nat
  rx : Receiver
  /-- the end of the inter-byte timer, absent in HUNT and BREAK (R208) -/
  byteEnd : Option Nat
  /-- the receive queue, oldest first -/
  rxq : List Frame
  /-- the reply queue, oldest first -/
  replies : List Reply
  reservations : List Reservation
  /-- the notice queue, oldest first -/
  notices : List Notice
  tx : Option Transmission
  /-- bit k for the notice of code 80h + k; the always-on bits 9..11 are held set -/
  mask : BitVec 16
  lost : Nat
  /-- bit k for the cause numbered k -/
  latched : Vector Bool 6
  errors : Vector Nat 6
  deriving DecidableEq, Repr

/-! ### The front panel (chapter 3) -/

/-- The scanner's hold on one position (R29) and its repeat timer (R32). -/
structure KeyState where
  down : Bool
  /-- the change count, 0..5 -/
  count : Nat
  /-- a press held back by ghost suppression -/
  pendingGhost : Bool
  /-- when the next REPEAT falls -/
  repeatAt : Option Nat
  deriving DecidableEq, Repr

/-- Table 16. A channel number n is the index n - 1. -/
inductive KeyAction where
  | none
  | runStop
  | single
  | forceTrigger
  | defaultSetup
  | undo
  | channelToggle (c : Fin 4)
  | levelToMid
  | positionZero (c : Fin 4)
  deriving DecidableEq, Repr

/-- Table 56. -/
def KeyAction.code : KeyAction → Nat
  | .none => 0 | .runStop => 1 | .single => 2 | .forceTrigger => 3 | .defaultSetup => 4 | .undo => 5
  | .channelToggle _ => 6 | .levelToMid => 7 | .positionZero _ => 8

/-- The channel number that an action carries, 0 when it carries none (R43). -/
def KeyAction.channel : KeyAction → Nat
  | .channelToggle c => c.val + 1
  | .positionZero c => c.val + 1
  | _ => 0

/-- A change recognised by a scan whose event has not been treated yet. -/
structure KeyDue where
  pos : Fin 64
  press : Bool
  time : Nat
  /-- the action that a PRESS read from the key action table at its recognition (R39); none for a RELEASE -/
  action : KeyAction
  deriving DecidableEq, Repr

/-- An entry of the key action table (R38). -/
structure KeyEntry where
  action : KeyAction
  report : Bool
  deriving DecidableEq, Repr

/-- An open encoder window (R45). -/
structure Window where
  endAt : Nat
  count : Int
  deriving DecidableEq, Repr

/-- One encoder (R44, R45). -/
structure Encoder where
  /-- the reference pair (A, B) -/
  refA : Bool
  refB : Bool
  sub : Int
  illegal : Nat
  window : Option Window
  deriving DecidableEq, Repr

/-- An entry of the binding table (R46); an absent field is REPORT. -/
structure Binding where
  field : Option (Fin 87)
  step : Nat
  accel : Bool
  deriving DecidableEq, Repr

/-- The override of an automatic LED (R51) -/
inductive LedOverride where
  | auto
  | forceOn
  | forceOff
  deriving DecidableEq, Repr

def LedOverride.code : LedOverride → Nat
  | .auto => 0 | .forceOn => 1 | .forceOff => 2

/-- The tone that the beeper plays (R54). -/
structure Tone where
  rank : Nat
  freq : Nat
  endAt : Nat
  deriving DecidableEq, Repr

/-- The Panel Scanner (chapter 3). -/
structure Panel where
  keys : Vector KeyState 64
  /-- recognised changes awaiting KEY_PRESS or KEY_RELEASE, oldest first -/
  due : List KeyDue
  /-- when the next scan falls -/
  scanAt : Nat
  /-- the key event queue, oldest first -/
  queue : List KeyEvent
  actions : Vector KeyEntry 64
  encs : Vector Encoder 12
  bindings : Vector Binding 12
  overrides : Vector LedOverride 12
  hostLeds : Vector Bool 12
  /-- the phase of LED 0's blink: green or dark -/
  blinkGreen : Bool
  /-- the end of the blink phase; absent when LED 0 does not blink -/
  blinkEnd : Option Nat
  tone : Option Tone
  deriving DecidableEq, Repr

/-! ### The front end (chapter 4) -/

/-- A front-end word (Table 21). -/
structure FeWord where
  /-- DIV100 -/
  div100 : Bool
  gain : Int
  coupling : Int
  bwl : Bool
  power : Bool
  deriving DecidableEq, Repr

/-- Table 23. -/
inductive FeCond where
  | off
  | waitReady
  | up
  | fault
  deriving DecidableEq, Repr

def FeCond.code : FeCond → Nat
  | .off => 0 | .waitReady => 1 | .up => 2 | .fault => 3

/-- An entry of the calibration table (R68). -/
structure CalEntry where
  g : Int
  o : Int
  cal : Bool
  deriving DecidableEq, Repr

/-- A transfer on the front-end port (R60). `full` marks a full reprogram, `final` the transfer of standby entry (R67). -/
structure Transfer where
  words : Vector FeWord 4
  full : Bool
  final : Bool
  endAt : Nat
  deriving DecidableEq, Repr

/-- The Front-End Controller (chapter 4). -/
structure FrontEnd where
  cond : FeCond
  /-- the transfer in progress; absent when the port is IDLE -/
  port : Option Transfer
  /-- a full reprogram was called for while the port was SHIFTING -/
  fullOwed : Bool
  latched : Vector FeWord 4
  /-- the end of the settle timer; absent when STOPPED -/
  settleEnd : Option Nat
  /-- the end of the ready wait; absent outside WAIT_READY -/
  waitEnd : Option Nat
  /-- the readiness last announced to the Acquisition Engine (R63) -/
  readyShown : Bool
  cal : Vector CalEntry 52
  deriving DecidableEq, Repr

/-! ### Acquisition (chapter 5) -/

/-- One stored point of one channel (R80). A PEAK point is a pair; a SAMPLE or HIRES point holds one value twice. -/
structure Point where
  lo : Int
  hi : Int
  clipped : Bool
  deriving DecidableEq, Repr

/-- One point of each of the four channels; a channel that is not present holds zeros, which are never read. -/
abbrev PointRow := Vector Point 4

/-- The trigger fields (TSRC, TTYPE, TSLOPE, TLEVEL, TNOISE, TMODE, TWCOND, TWIDTH, HOLDOFF) in Table 8's numbering. -/
structure TrigSet where
  src : Int
  type : Int
  slope : Int
  level : Int
  noise : Int
  mode : Int
  wcond : Int
  width : Int
  holdoff : Int
  deriving DecidableEq, Repr

/-- The context of one channel (R79). -/
structure CapChannel where
  on : Bool
  vdiv : Int
  coupling : Int
  cal : CalEntry
  deriving DecidableEq, Repr

/-- What the decimator holds of an incomplete interval for one channel: enough for each ACQMODE of R80. -/
structure Accum where
  first : Int
  mn : Int
  mx : Int
  sum : Int
  clipped : Bool
  deriving DecidableEq, Repr

/-- The capture in flight: its context (R79) and the points it holds (R81). -/
structure Capture where
  slot : Nat
  gen : Nat
  chans : Vector CapChannel 4
  tdiv : Int
  mode : Int
  hpos : Int
  geom : Geom
  trig : TrigSet
  /-- the calibration entry of the source channel, when TSRC names one -/
  trigCal : CalEntry
  /-- the pre-trigger store, oldest first -/
  pre : List PointRow
  /-- the points from index Npre on -/
  post : List PointRow
  /-- how many samples the interval in progress holds -/
  ivN : Nat
  iv : Vector Accum 4
  trigTime : Nat
  trigCause : TrigCause
  gap : Nat
  /-- the trigger sample has been taken -/
  hit : Bool
  deriving DecidableEq, Repr

/-- A crossing found by the comparator (R82). -/
structure Crossing where
  rising : Bool
  time : Nat
  deriving DecidableEq, Repr

/-- The trigger comparator (R82). -/
structure Comparator where
  running : Bool
  loaded : TrigSet
  risePrimed : Bool
  fallPrimed : Bool
  last : Option Crossing
  deriving DecidableEq, Repr

/-- The last accepted trigger: its time-base value, the moment it stands for, its cause. -/
structure LastTrig where
  time : Nat
  moment : Nat
  cause : TrigCause
  deriving DecidableEq, Repr

/-- The Acquisition Engine (chapter 5). -/
structure Acq where
  st : AcqSt
  mode : RunMode
  cap : Option Capture
  pendingForce : Bool
  holdoffEnd : Option Nat
  autoEnd : Option Nat
  lastTrig : Option LastTrig
  fault : Bool
  cmp : Comparator
  /-- a reload deferred in POST_FILL (R98) -/
  deferred : Bool
  /-- the end of the trigger rate gate; absent when the counter is stopped (R100) -/
  gateEnd : Option Nat
  rateCount : Nat
  /-- the held result; absent is NO_RESULT -/
  rateHeld : Option Nat
  discSetup : Nat
  discStop : Nat
  discFail : Nat
  discFault : Nat
  deriving DecidableEq, Repr

/-! ### The record ring (chapter 6) -/

/-- The state of a slot (R106). -/
inductive SlotSt where
  | empty
  | filling
  | held
  deriving DecidableEq, Repr

/-- The header part of one channel (R224). -/
structure ChanHead where
  on : Bool
  clipped : Bool
  uncal : Bool
  vdiv : Int
  coupling : Int
  deriving DecidableEq, Repr

/-- A committed record: the header of R224, the parts of the context that stay with it, and its points. -/
structure Record where
  number : Nat
  slot : Nat
  gen : Nat
  trigTime : Nat
  cause : TrigCause
  mode : Int
  geom : Geom
  hpos : Int
  tdiv : Int
  gap : Nat
  chans : Vector ChanHead 4
  trig : TrigSet
  trigCal : CalEntry
  cals : Vector CalEntry 4
  points : List PointRow
  deriving DecidableEq, Repr

/-- An announcement of the Record Ring to a reader of records (R110, R111, R113, R119, R122). -/
inductive RingAnn where
  | commit (n : Nat)
  | discard (n : Nat)
  | pinCancelled (n : Nat)
  /-- `counter` is the counter after the CLEAR; `ended`: the CLEAR has returned it to 0 (R119, R145, R160) -/
  | clear (counter : Nat) (ended : Bool)
  | emptied
  deriving DecidableEq, Repr

/-- The Record Ring (chapter 6). -/
structure Ring where
  /-- the built geometry -/
  leff : Nat
  w : Nat
  cap : Nat
  slots : List SlotSt
  /-- the ring order, oldest first -/
  order : List Record
  counter : Nat
  lock1 : Option Nat
  lock2 : Option Nat
  pin : Option Nat
  geomPending : Bool
  /-- a claim waits for a slot -/
  waitSlot : Bool
  /-- a claim waits for the rebuild -/
  waitRebuild : Bool
  deriving DecidableEq, Repr

/-! ### Measurement (chapter 7) -/

/-- The settings of one slot as copied at the start of an evaluation (R126). -/
structure SlotCfg where
  kind : Int
  src : Int
  loOn : Bool
  lo : Int
  hiOn : Bool
  hi : Int
  deriving DecidableEq, Repr

/-- The evaluation in flight (R124, R126). -/
structure Eval where
  record : Nat
  kind : EvalKind
  cfg : Vector SlotCfg 6
  zeroband : Int
  chans : Vector ChanHead 4
  mode : Int
  geom : Geom
  /-- the points of the screen window -/
  window : List PointRow
  /-- the held trigger rate read at the start -/
  rate : Option Nat
  /-- a field of the slot changed during the flight (R127) -/
  dirty : Vector Bool 6
  /-- a CLEAR was taken during the flight (R127) -/
  cleared : Bool
  deriving DecidableEq, Repr

/-- The statistics of a slot (R134). -/
structure Stats where
  count : Nat
  range : Option (Int × Int)
  deriving DecidableEq, Repr

/-- The fail hold of a slot (R135). -/
structure FailHold where
  value : Int
  high : Bool
  excess : Int
  record : Nat
  deriving DecidableEq, Repr

/-- The override of the limit line (R142). -/
inductive LineOverride where
  | auto
  | forceTrue
  | forceFalse
  deriving DecidableEq, Repr

def LineOverride.code : LineOverride → Nat
  | .auto => 0 | .forceTrue => 1 | .forceFalse => 2

/-- The Measurement Unit (chapter 7). -/
structure Meas where
  results : Vector SlotResult 6
  eval : Option Eval
  ns : Nat
  skipped : Nat
  reReq : Bool
  stats : Vector Stats 6
  failCount : Vector Nat 6
  hold : Vector (Option FailHold) 6
  recVerdict : Verdict
  recVerdictOf : Nat
  devVerdict : Verdict
  line : LineSt
  lineEnd : Option Nat
  override : LineOverride
  /-- the fail-stop-outstanding flag (R138) -/
  failFlag : Bool
  /-- the gate last presented to the Acquisition Engine was CLOSED -/
  gateShut : Bool
  /-- the moment of the last MEAS_RESULT offer (R144) -/
  lastOffer : Option Nat
  deriving DecidableEq, Repr

/-! ### Display (chapter 8) -/

/-- The kinds of a rasterisation (R148). -/
inductive RasterKind where
  | live
  | redraw
  deriving DecidableEq, Repr

def RasterKind.code : RasterKind → Nat
  | .live => 0 | .redraw => 1

/-- The rasterisation in flight (R148): the record it reads through the pin, and the live copy. -/
structure Raster where
  record : Nat
  kind : RasterKind
  chans : Vector ChanHead 4
  mode : Int
  geom : Geom
  points : List PointRow
  on : Vector Bool 4
  vdiv : Vector Int 4
  pos : Vector Int 4
  tdiv : Int
  hpos : Int
  persist : Int
  deriving DecidableEq, Repr

/-- The Waveform Display (chapter 8). -/
structure Display where
  planes : Vector Memory 4
  raster : Option Raster
  nd : Nat
  passed : Nat
  redraw : Bool
  decays : Nat
  /-- the shown-record selection; absent is NEWEST -/
  sel : Option Nat
  /-- scan-out is running -/
  scanning : Bool
  /-- the moment of frame start 0 and the number of the next frame start -/
  frameBase : Nat
  frameIx : Nat
  deriving DecidableEq, Repr

/-! ### Overlay (chapter 9) -/

/-- A colour of the palette (R169). -/
structure Rgb where
  r : Byte
  g : Byte
  b : Byte
  deriving DecidableEq, Repr

/-- A draw record (R174 to R178; layouts of R223). -/
inductive DrawRec where
  | fill (x0 y0 x1 y1 : Int) (colour : Byte)
  | line (x0 y0 x1 y1 : Int) (colour : Byte)
  | text (x y : Int) (fg bg : Byte) (codes : List Byte)
  | bitmap (x y : Int) (w h : Nat) (fg bg : Byte) (data : List Byte)
  | present
  deriving DecidableEq, Repr

def DrawRec.code : DrawRec → Nat
  | .fill _ _ _ _ _ => 1 | .line _ _ _ _ _ => 2 | .text _ _ _ _ _ => 3 | .bitmap _ _ _ _ _ _ _ => 4 | .present => 5

/-- The drawer's states (R171). -/
inductive DrawerSt where
  | idle
  | drawing
  | waitFrame
  | copying
  deriving DecidableEq, Repr

def DrawerSt.code : DrawerSt → Nat
  | .idle => 0 | .drawing => 1 | .waitFrame => 2 | .copying => 3

/-- The Overlay Drawer (chapter 9). -/
structure Overlay where
  bufA : Memory
  bufB : Memory
  /-- the front selector names B -/
  frontB : Bool
  /-- the buffer that scan-out reads, as read at the last frame start (R168), is B -/
  scanB : Bool
  palette : Vector Rgb 256
  /-- the draw queue, oldest first; the oldest is the one in execution -/
  queue : List DrawRec
  st : DrawerSt
  presents : Nat
  dropped : Nat
  deriving DecidableEq, Repr

/-! ### Store (chapter 10) -/

/-- The content of a nonvolatile setup slot as a read classifies it (R182). -/
inductive NvSlot where
  | erased
  | valid (name : List Byte) (vals : SetupVals) (count : Nat)
  | corrupt
  deriving DecidableEq, Repr

/-- The content of an entry of the factory calibration area (R191): the erased pattern, data with a matching check, or
anything else. -/
inductive NvCal where
  | erased
  | data (g o : Int)
  | corrupt
  deriving DecidableEq, Repr

/-- The state of a slot in the RAM directory (R183). -/
inductive SlotClass where
  | erased
  | valid
  | corrupt
  deriving DecidableEq, Repr

def SlotClass.code : SlotClass → Nat
  | .erased => 0 | .valid => 1 | .corrupt => 2

/-- An entry of the RAM directory (R183). -/
structure DirEntry where
  cls : SlotClass
  name : List Byte
  count : Nat
  deriving DecidableEq, Repr

/-- An entry of the RAM copy of the calibration area (R191). -/
inductive CalRam where
  | unwritten
  | written (g o : Int)
  | corrupt
  deriving DecidableEq, Repr

def CalRam.code : CalRam → Nat
  | .unwritten => 0 | .written _ _ => 1 | .corrupt => 2

/-- The operation in flight in WRITING with what its completion needs (R184, R185). -/
inductive StoreOp where
  | save (slot : Fin 17) (name : List Byte) (vals : SetupVals) (count : Nat) (gen : Nat) (clamped : Bool)
  | erase (slot : Fin 17)
  | calWrite (entry : Fin 52) (g o : Int)
  | last (vals : SetupVals) (count : Nat)
  deriving DecidableEq, Repr

/-- The store's states (R184). -/
inductive StoreSt where
  | idle
  | loading
  | writing (op : StoreOp) (endAt : Nat)
  deriving DecidableEq, Repr

/-- The Setup Store (chapter 10). -/
structure Store where
  slots : Vector NvSlot 17
  calArea : Vector NvCal 52
  dir : Vector DirEntry 17
  calRam : Vector CalRam 52
  loaded : Bool
  st : StoreSt
  replyCancelled : Bool
  lastPending : Bool
  /-- the load waits for the completion of the operation in flight (R194) -/
  loadPending : Bool
  /-- steps 1 to 3 of the load have been made, and step 4 not yet (R194, R203) -/
  loadHanded : Bool
  deriving DecidableEq, Repr

/-! ### Power (chapter 11) -/

inductive PowerSt where
  | standby
  | poweringUp
  | on
  | shuttingDown
  deriving DecidableEq, Repr

/-- Table 58; STANDBY cannot be reported (R205). -/
def PowerSt.code : PowerSt → Nat
  | .standby => 0 | .poweringUp => 1 | .on => 2 | .shuttingDown => 3

inductive StartCause where
  | none
  | autoOn
  | powerKey
  | forcedOff
  deriving DecidableEq, Repr

def StartCause.code : StartCause → Nat
  | .none => 0 | .autoOn => 1 | .powerKey => 2 | .forcedOff => 3

inductive PowerUpStep where
  | feWait
  | load
  deriving DecidableEq, Repr

inductive ShutdownStep where
  | lastWrite
  | grace
  deriving DecidableEq, Repr

/-- The Power Controller (R196). -/
structure Power where
  st : PowerSt
  cause : StartCause
  forcedOff : Bool
  upStep : PowerUpStep
  downStep : ShutdownStep
  /-- the saved acquisition: whether it ran, and its run mode -/
  saved : Option (Bool × RunMode)
  holdEnd : Option Nat
  graceEnd : Option Nat
  replyCancelled : Bool
  deriving DecidableEq, Repr

/-! ### Clock, pins, and the announcements on their way -/

/-- Time: `now` counts nanoseconds since the supply reset and never goes back; the time base (R74) is `now - epoch`,
`epoch` being the moment at which it was last set to 0. -/
structure Clock where
  now : Nat
  epoch : Nat
  deriving DecidableEq, Repr

/-- The levels of the input pins as last taken. -/
structure Pins where
  straps : Straps
  feReady : Bool
  ext : Bool
  encA : Vector Bool 12
  encB : Vector Bool 12
  deriving DecidableEq, Repr

/-- The announcements that a block has handed to another and that the other has not taken yet, oldest first (R9, R63,
R65, R66, R91, R110, R111, R122, R138). -/
structure Boxes where
  fe : List SetupAnn
  acq : List SetupAnn
  ring : List SetupAnn
  meas : List SetupAnn
  disp : List SetupAnn
  /-- to the Panel Scanner, until its next scan (log entry 39) -/
  panel : List SetupAnn
  /-- true: settling began; false: settling ended -/
  settle : List Bool
  /-- true: fault; false: fault cleared -/
  fault : List Bool
  failStops : Nat
  gateOpens : Nat
  rebuilds : Nat
  /-- the slot offered to the engine and not yet taken, at most one (R106, R109, log entry 40) -/
  offers : List Nat
  measRing : List RingAnn
  dispRing : List RingAnn
  deriving DecidableEq, Repr

end Sys2Proof.Machine
end

