-- ==== Sys2Proof/Machine/Operands.lean ====
section
/-! DEFINITION. How arguments are read from a request's payload and items are laid into replies and notices
(chapter 13). -/

namespace Sys2Proof.Machine

/-- A field value entry (R223): the id (2), then the value (8, signed). -/
def entryBytes (id : Nat) (v : Int) : List Byte := leBytes 2 id ++ leInt 8 v

/-- The field value entry at an offset of a payload. -/
def entryAt (p : List Byte) (off : Nat) : Nat × Int := (argU p off 2, argS p (off + 2) 8)

/-- The field value entries of a payload from an offset on, `n` of them. -/
def entriesAt (p : List Byte) : Nat → Nat → List (Nat × Int)
  | _, 0 => []
  | off, n + 1 => entryAt p off :: entriesAt p (off + 10) n

/-- One byte per enumerated number below 256. -/
def one (n : Nat) : List Byte := [byte n]

/-- A record number that may be absent; 0 means no record (R225). -/
def recordBytes (n : Option Nat) : List Byte := leBytes 4 (n.getD 0)

/-- A KEY event as a notice payload or a GET_KEYS entry (Table 54). -/
def keyEventBytes (e : KeyEvent) : List Byte :=
  one e.pos.val ++ one e.kind.code ++ leBytes 4 e.time ++ [flagByte e.lostBefore]

/-- A set of slots as a byte with bit s for slot s. -/
def slotSetByte (l : List (Fin 6)) : Byte := byte ((l.map (fun i => 2 ^ i.val)).sum)

/-- The payload of a notice (Table 54). -/
def Notice.payload : Notice → List Byte
  | .key ev => keyEventBytes ev
  | .knob e n t => one e.val ++ leInt 2 (clampI n (-32768) 32767) ++ leBytes 4 t
  | .setupChanged id v src gen => entryBytes id v ++ one src.code ++ leBytes 2 gen
  | .setupReplaced src gen r => one src.code ++ leBytes 2 gen ++ one r.code
  | .acqState st m c => one st.code ++ one m.code ++ one c.code
  | .limit v n failed l => one v.code ++ leBytes 4 n ++ [slotSetByte failed] ++ one l.code
  | .recordDone n t c => leBytes 4 n ++ leBytes 8 t ++ one c.code
  | .measResult n k rs =>
    leBytes 4 n ++ one k.code ++
      (rs.toList.map (fun r => leInt 8 r.value ++ one r.status.code ++ [flagByte r.clipped])).flatten
  | .presented n => leBytes 2 n
  | .linkError c tag => one c.ix.val ++ [flagByte tag.isSome, tag.getD 0]
  | .powerKey t => leBytes 4 t
  | .noticesLost n => leBytes 2 n

/-- A notice's frame: kind NOTICE, tag 0, code 80h plus its number, status 0 (R214). -/
def Notice.frame (n : Notice) : Frame := ⟨3, 0, byte (128 + n.ix), 0, n.payload⟩

/-- A reply's frame (R212). -/
def Reply.frame (r : Reply) : Frame := ⟨2, r.tag, r.code, byte r.status.code, r.payload⟩

/-- The bytes of a frame that its CRC covers: kind to the last payload byte (R221). -/
def Frame.covered (f : Frame) : List Byte :=
  [f.kind, f.tag, f.code, f.status] ++ leBytes 2 f.payload.length ++ f.payload

/-- A frame as the line carries it (Table 51). -/
def Frame.bytes (f : Frame) : List Byte := 0xC3#8 :: (f.covered ++ leBytes 2 (crc16 f.covered).toNat)

/-- A point word (R223): the code in bits 0..9, the CLIPPED mark in bit 15. -/
def pointWord (v : Int) (clipped : Bool) : List Byte :=
  leBytes 2 ((v % 1024).toNat + if clipped then 32768 else 0)

/-- The words of one point: one for SAMPLE and HIRES, the minimum and the maximum for PEAK (R223). -/
def pointBytes (w : Nat) (p : Point) : List Byte :=
  if w = 2 then pointWord p.lo p.clipped ++ pointWord p.hi p.clipped else pointWord p.lo p.clipped

/-- The header part of one channel (R224): flags, VDIV index, coupling; zeros when it is not present. -/
def chanHeadBytes (c : ChanHead) : List Byte :=
  if c.on then
    [byte (1 + (if c.clipped then 2 else 0) + if c.uncal then 4 else 0), byte c.vdiv.toNat, byte c.coupling.toNat]
  else [0, 0, 0]

/-- The record header of R224, 44 bytes. -/
def headerBytes (r : Record) : List Byte :=
  leBytes 4 r.number ++ leBytes 2 r.gen ++ leBytes 8 r.trigTime ++ one r.cause.code ++ one r.mode.toNat ++
    one r.geom.dExp ++ leBytes 4 r.geom.leff ++ leBytes 4 r.geom.npre ++ leInt 2 r.hpos ++ one r.tdiv.toNat ++
    leBytes 4 r.gap ++ (r.chans.toList.map chanHeadBytes).flatten

/-! ### Draw records (R172, R223) -/

/-- How many bytes the record at the front of a list occupies, from its kind byte and its count or data length; none
when the list ends before the length is known. A record of unknown kind occupies its kind byte alone. -/
def drawSize (p : List Byte) : Option Nat :=
  match p with
  | [] => none
  | k :: _ =>
    if k = 1 ∨ k = 2 then some 10
    else if k = 3 then if 8 ≤ p.length then some (8 + argU p 7 1) else none
    else if k = 4 then if 13 ≤ p.length then some (13 + argU p 11 2) else none
    else some 1

/-- The payload divided into records (step 1 of R172): the pieces, or the position from 1 of the record that does not
fit. Every piece holds at least one byte, so `fuel` above the payload's length suffices. -/
def drawSplit : Nat → Nat → List Byte → Except Nat (List (List Byte))
  | 0, n, _ => .error n
  | fuel + 1, n, p =>
    if p.isEmpty then .ok []
    else
      match drawSize p with
      | none => .error n
      | some k =>
        if p.length < k then .error n
        else
          match drawSplit fuel (n + 1) (p.drop k) with
          | .ok rest => .ok (p.take k :: rest)
          | .error m => .error m

/-- One piece read as a draw record (step 2 of R172); none for an unknown kind, a character count outside 1..64 or a data
length outside 1..480. -/
def drawRead (p : List Byte) : Option DrawRec :=
  match argU p 0 1 with
  | 1 => some (.fill (argS p 1 2) (argS p 3 2) (argS p 5 2) (argS p 7 2) (byte (argU p 9 1)))
  | 2 => some (.line (argS p 1 2) (argS p 3 2) (argS p 5 2) (argS p 7 2) (byte (argU p 9 1)))
  | 3 =>
    let c := argU p 7 1
    if 1 ≤ c ∧ c ≤ 64 then
      some (.text (argS p 1 2) (argS p 3 2) (byte (argU p 5 1)) (byte (argU p 6 1)) (p.drop 8))
    else none
  | 4 =>
    let d := argU p 11 2
    if 1 ≤ d ∧ d ≤ 480 then
      some (.bitmap (argS p 1 2) (argS p 3 2) (argU p 5 2) (argU p 7 2) (byte (argU p 9 1)) (byte (argU p 10 1))
        (p.drop 13))
    else none
  | 5 => some .present
  | _ => none

/-- The pieces read in order: the records, or the position from 1 of the first that is refused. -/
def drawReadAll : Nat → List (List Byte) → Except Nat (List DrawRec)
  | _, [] => .ok []
  | n, p :: ps =>
    match drawRead p with
    | none => .error n
    | some r =>
      match drawReadAll (n + 1) ps with
      | .ok rs => .ok (r :: rs)
      | .error m => .error m

end Sys2Proof.Machine
end

