-- ==== Sys2Proof/Machine/Defaults.lean ====
section
/-! DEFINITION. The stated default values of the tables and of each block's state (Tables 16, 17, 39, 49, the reset
tables of the chapters), and the front-end word of Table 21. -/

namespace Sys2Proof.Machine

/-- Table 21: the front-end word of a channel, derived from a setup (R58). -/
def feWordOf (v : SetupVals) (c : Fin 4) : FeWord :=
  { div100 := decide (7 ≤ v.at (idVdiv c))
    gain := v.at (idVdiv c)
    coupling := v.at (idCoupling c)
    bwl := decide (v.at (idBwl c) = 1)
    power := decide (v.at (idChOn c) = 1) || decide (v.at idTsrc = (c.val : Int)) }

/-- The words of a setup with every channel's power off (R58, R67). -/
def unpoweredWords (v : SetupVals) : Vector FeWord 4 :=
  Vector.ofFn (fun c => { feWordOf v c with power := false })

/-- An UNCAL entry (R68). -/
def uncalEntry : CalEntry := ⟨16384, 0, false⟩

/-- Table 16, default actions; every report flag is on (R38). -/
def defaultAction (p : Fin 64) : KeyAction :=
  match p.val with
  | 1 => .runStop
  | 2 => .single
  | 3 => .forceTrigger
  | 4 => .defaultSetup
  | 5 => .undo
  | 6 => .channelToggle 0
  | 7 => .channelToggle 1
  | 8 => .channelToggle 2
  | 9 => .channelToggle 3
  | 27 => .positionZero 0
  | 28 => .positionZero 1
  | 29 => .positionZero 2
  | 30 => .positionZero 3
  | 33 => .levelToMid
  | _ => .none

/-- The default key action table (R38). -/
def defaultActions : Vector KeyEntry 64 := Vector.ofFn (fun p => ⟨defaultAction p, true⟩)

/-- Table 17, the field of each encoder's default binding. -/
def defaultBinding (e : Fin 12) : Binding :=
  match e.val with
  | 0 => ⟨fieldIx 11, 1, false⟩
  | 1 => ⟨fieldIx 21, 1, false⟩
  | 2 => ⟨fieldIx 31, 1, false⟩
  | 3 => ⟨fieldIx 41, 1, false⟩
  | 4 => ⟨fieldIx 12, 1, true⟩
  | 5 => ⟨fieldIx 22, 1, true⟩
  | 6 => ⟨fieldIx 32, 1, true⟩
  | 7 => ⟨fieldIx 42, 1, true⟩
  | 8 => ⟨fieldIx 50, 1, false⟩
  | 9 => ⟨fieldIx 51, 1, true⟩
  | 10 => ⟨fieldIx 63, 1, true⟩
  | _ => ⟨none, 1, false⟩

/-- The default binding table (R46). -/
def defaultBindings : Vector Binding 12 := Vector.ofFn defaultBinding

/-- A position that is UP with nothing pending (R29). -/
def keyUp : KeyState := ⟨false, 0, false, none⟩

/-- A colour of three components given as numbers. -/
def rgb (r g b : Nat) : Rgb := ⟨byte r, byte g, byte b⟩

/-- Table 39: the default palette. -/
def defaultColour (i : Fin 256) : Rgb :=
  match i.val with
  | 0 => rgb 0 0 0
  | 1 => rgb 255 255 255
  | 2 => rgb 192 192 192
  | 3 => rgb 128 128 128
  | 4 => rgb 64 64 64
  | 5 => rgb 255 0 0
  | 6 => rgb 0 255 0
  | 7 => rgb 0 0 255
  | 8 => rgb 255 255 0
  | 9 => rgb 0 255 255
  | 10 => rgb 255 0 255
  | 11 => rgb 255 176 0
  | 12 => rgb 96 192 255
  | 13 => rgb 255 96 144
  | 14 => rgb 160 255 64
  | 15 => rgb 0 0 0
  | n =>
    if n < 76 then
      let k := 255 * (n - 16) / 59
      rgb k k k
    else if n < 136 then rgb (255 * (n - 76 + 1) / 60) 0 0
    else if n < 196 then rgb 0 (255 * (n - 136 + 1) / 60) 0
    else rgb 0 0 (255 * (n - 196 + 1) / 60)

/-- The default palette (R169). -/
def defaultPalette : Vector Rgb 256 := Vector.ofFn defaultColour

/-- Table 49: the default notice mask, with the always-on kinds set. -/
def defaultMask : BitVec 16 := 0x0E3F

/-- The trigger fields of a setup. -/
def trigOf (v : SetupVals) : TrigSet :=
  { src := v.at idTsrc, type := v.at idTtype, slope := v.at idTslope, level := v.at idTlevel, noise := v.at idTnoise
    mode := v.at idTmode, wcond := v.at idTwcond, width := v.at idTwidth, holdoff := v.at idHoldoff }

/-- A result with status NO_RECORD (R124, R145). The rules give its value, its record and CLIPPED; its origin FIRST is
DESIGN CHOICE (log entry 17). -/
def noRecordResult : SlotResult := ⟨0, .noRecord, false, none, .first⟩

/-- The Measurement Unit after each kind of reset (R145). -/
def measInitial : Meas :=
  { results := Vector.replicate 6 noRecordResult, eval := none, ns := 0, skipped := 0, reReq := false
    stats := Vector.replicate 6 ⟨0, none⟩, failCount := Vector.replicate 6 0, hold := Vector.replicate 6 none
    recVerdict := .none, recVerdictOf := 0, devVerdict := .none, line := .deasserted, lineEnd := none
    override := .auto, failFlag := false, gateShut := false, lastOffer := none }

/-- The Overlay Drawer after each kind of reset (R181, R169). -/
def overlayInitial : Overlay :=
  { bufA := [], bufB := [], frontB := false, scanB := false, palette := defaultPalette, queue := [], st := .idle
    presents := 0, dropped := 0 }

/-- The comparator after a supply reset and at standby entry (R82): stopped, flags clear, last crossing absent. -/
def comparatorStopped (t : TrigSet) : Comparator := ⟨false, t, false, false, none⟩

/-- The ring built from the default setup (R123). R123 gives no value of the two notes that a claim waits, for a slot and for
the rebuild: that both are clear is DESIGN CHOICE (log entry 17). -/
def ringInitial : Ring :=
  { leff := 16384, w := 1, cap := 16, slots := List.replicate 16 .empty, order := [], counter := 0, lock1 := none
    lock2 := none, pin := none, geomPending := false, waitSlot := false, waitRebuild := false }

/-- The Link Interface after a supply reset: DOWN, with the values of a standby entry (R207). -/
def linkInitial : Link :=
  { up := false, rate := 3, rx := .hunt, byteEnd := none, rxq := [], replies := [], reservations := [], notices := []
    tx := none, mask := defaultMask, lost := 0, latched := Vector.replicate 6 false, errors := Vector.replicate 6 0 }

/-- The Waveform Display after a supply reset (R148, R167). -/
def displayInitial : Display :=
  { planes := Vector.replicate 4 [], raster := none, nd := 0, passed := 0, redraw := false, decays := 0, sel := none
    scanning := false, frameBase := 0, frameIx := 0 }

/-- No announcement on its way. -/
def boxesEmpty : Boxes :=
  { fe := [], acq := [], ring := [], meas := [], disp := [], panel := [], settle := [], fault := [], failStops := 0
    gateOpens := 0, rebuilds := 0, offers := [], measRing := [], dispRing := [] }

/-- The Panel Scanner after a supply reset (R29, R34, R38, R44 to R46, R51, R54); the first scan falls 1 ms on. -/
def panelInitial : Panel :=
  { keys := Vector.replicate 64 keyUp, due := [], scanAt := 1000000, queue := [], actions := defaultActions
    encs := Vector.replicate 12 ⟨false, false, 0, 0, none⟩, bindings := defaultBindings
    overrides := Vector.replicate 12 .auto, hostLeds := Vector.replicate 12 false, blinkGreen := false
    blinkEnd := none, tone := none }

/-- The Front-End Controller after a supply reset (R58, R62, R64, R67, R68). -/
def frontEndInitial : FrontEnd :=
  { cond := .off, port := none, fullOwed := false, latched := unpoweredWords defaultVals, settleEnd := none
    waitEnd := none, readyShown := false, cal := Vector.replicate 52 uncalEntry }

/-- The Acquisition Engine after a supply reset (R77, R82, R99, R100, R104). -/
def acqInitial : Acq :=
  { st := .stopped, mode := .run, cap := none, pendingForce := false, holdoffEnd := none, autoEnd := none
    lastTrig := none, fault := false, cmp := comparatorStopped (trigOf defaultVals), deferred := false
    gateEnd := none, rateCount := 0, rateHeld := none, discSetup := 0, discStop := 0, discFail := 0, discFault := 0 }

/-- The Setup Controller after a supply reset (R28). -/
def setupInitial : SetupCtl := ⟨defaultVals, 0, []⟩

/-- The Setup Store after a supply reset (R183, R184, R191), with the nonvolatile medium of a new part: every slot and
every calibration entry erased. That the reply-cancelled flag is clear is DESIGN CHOICE (log entry 17): R184 states the IDLE
store and the LAST-pending flag alone. -/
def storeInitial : Store :=
  { slots := Vector.replicate 17 .erased, calArea := Vector.replicate 52 .erased
    dir := Vector.replicate 17 ⟨.erased, [], 0⟩, calRam := Vector.replicate 52 .unwritten, loaded := false, st := .idle
    replyCancelled := false, lastPending := false, loadPending := false, loadHanded := false }

/-- The Power Controller after a supply reset with AUTO_ON low (R196). -/
def powerInitial : Power :=
  { st := .standby, cause := .none, forcedOff := false, upStep := .feWait, downStep := .lastWrite, saved := none
    holdEnd := none, graceEnd := none, replyCancelled := false }

/-- The input pins at the model's first moment: every level low (log entry 2). -/
def pinsInitial : Pins :=
  { straps := ⟨false, false, false, false⟩, feReady := false, ext := false, encA := Vector.replicate 12 false
    encB := Vector.replicate 12 false }

end Sys2Proof.Machine
end

