-- ==== Sys2Proof/Machine/State.lean ====
section
/-! DEFINITION. The state of the SC410 as plain data: the eleven blocks of Table 1, the clock, the input pins, the
announcements on their way between blocks, and the queue of commands that wait. -/

namespace Sys2Proof.Machine

/-- The machine. `pending` is the queue of commands that are waiting, first in, first out; `freeCtr` is the model's own
counter for the free values of log entry 4. -/
structure State where
  pending : List Instr
  clock : Clock
  pins : Pins
  setup : SetupCtl
  panel : Panel
  fe : FrontEnd
  acq : Acq
  ring : Ring
  meas : Meas
  disp : Display
  ov : Overlay
  store : Store
  power : Power
  link : Link
  boxes : Boxes
  freeCtr : Nat
  deriving DecidableEq, Repr

/-- Why a step stops with a fault. No command of this device does: the data sheet gives every command an effect, and a
command whose event cannot occur in a state leaves the state as it is (log entry 5). -/
inductive Fault where
  /-- Raised by no command. It would be safe: a machine that stops allows nothing that the part does not. -/
  | neverRaised
  deriving DecidableEq, Repr

/-- Why a step has no meaning. -/
inductive Refusal where
  /-- Raised by `exec` for a command that the model gives no meaning; there is none such. Safe: nothing can be proved of
  what a refused command does. -/
  | notModelled (mnemonic : String)
  deriving DecidableEq, Repr

/-- The machine right after a supply reset with AUTO_ON low: STANDBY, the default setup, every queue empty
(R5, R28, R29, R67, R77, R123, R145, R167, R181, R196, R207). -/
def State.reset : State :=
  { pending := [], clock := ⟨0, 0⟩, pins := pinsInitial, setup := setupInitial, panel := panelInitial
    fe := frontEndInitial, acq := acqInitial, ring := ringInitial, meas := measInitial, disp := displayInitial
    ov := overlayInitial, store := storeInitial, power := powerInitial, link := linkInitial, boxes := boxesEmpty
    freeCtr := 0 }

/-! Updates, one block at a time: every operation over State is a composition of these. -/

def State.modClock (s : State) (f : Clock → Clock) : State := { s with clock := f s.clock }
def State.modPins (s : State) (f : Pins → Pins) : State := { s with pins := f s.pins }
def State.modSetup (s : State) (f : SetupCtl → SetupCtl) : State := { s with setup := f s.setup }
def State.modPanel (s : State) (f : Panel → Panel) : State := { s with panel := f s.panel }
def State.modFe (s : State) (f : FrontEnd → FrontEnd) : State := { s with fe := f s.fe }
def State.modAcq (s : State) (f : Acq → Acq) : State := { s with acq := f s.acq }
def State.modRing (s : State) (f : Ring → Ring) : State := { s with ring := f s.ring }
def State.modMeas (s : State) (f : Meas → Meas) : State := { s with meas := f s.meas }
def State.modDisp (s : State) (f : Display → Display) : State := { s with disp := f s.disp }
def State.modOv (s : State) (f : Overlay → Overlay) : State := { s with ov := f s.ov }
def State.modStore (s : State) (f : Store → Store) : State := { s with store := f s.store }
def State.modPower (s : State) (f : Power → Power) : State := { s with power := f s.power }
def State.modLink (s : State) (f : Link → Link) : State := { s with link := f s.link }
def State.modBoxes (s : State) (f : Boxes → Boxes) : State := { s with boxes := f s.boxes }
def State.modFree (s : State) (f : Nat → Nat) : State := { s with freeCtr := f s.freeCtr }

end Sys2Proof.Machine
end

