-- ==== Sys2Proof/Machine/Ops.lean ====
section
/-! DEFINITION. The operations that every block shares: the clock, the addressed buffers, notices, replies,
reservations, transmission, and the dispatch of a request. -/

namespace Sys2Proof.Machine

/-! ### The clock (R74) -/

/-- The time base: the nanoseconds since it was last set to 0, in 64 bits (R74). -/
def State.timeBase (s : State) : Nat := (s.clock.now - s.clock.epoch) % 18446744073709551616

/-- The millisecond reading of the time base (R30), before it is cut to 32 bits. -/
def State.msNow (s : State) : Nat := s.timeBase / 1000000

/-- The millisecond time of an event: 32 bits, wrapping (R30). -/
def State.msTime (s : State) : Nat := s.msNow % 4294967296

/-- Time passes until `t`, when it lies ahead: the command that is taken stands for a moment `t` (log entry 6). -/
def State.advanceTo (s : State) (t : Nat) : State := s.modClock (fun c => { c with now := max c.now t })

/-- One nanosecond passes. -/
def State.tick (s : State) : State := s.modClock (fun c => { c with now := c.now + 1 })

/-- The time base is set to 0 (R74). -/
def State.zeroTimeBase (s : State) : State := s.modClock (fun c => { c with epoch := c.now })

/-- How much of a timer remains, in units of `u` nanoseconds rounded up; 0 when it does not run (R73, R205). -/
def State.remaining (s : State) (u : Nat) (t : Option Nat) : Nat :=
  match t with
  | none => 0
  | some e => (e - s.clock.now + (u - 1)) / u

/-- A millisecond in nanoseconds. -/
def ms : Nat := 1000000

/-! ### The live setup, read by every block -/

/-- The value of a field of the live setup by id. -/
def State.fld (s : State) (id : Nat) : Int := s.setup.live.at id

/-- The geometry of the live setup as it stands (R75). -/
def State.liveGeom (s : State) : Geom := geomOf (s.fld idTdiv) (s.fld idReclen) (s.fld idAcqmode) (s.fld idHpos)

/-! ### Addressed buffers -/

/-- What an address of a buffer reads as: an unlisted address reads as 0 (R147, R168). -/
def Memory.read : Memory → Nat → Byte
  | [], _ => 0
  | (b, v) :: t, a => if a = b then v else Memory.read t a

/-- A write of one byte that keeps the canonical form. -/
def Memory.write : Memory → Nat → Byte → Memory
  | [], a, v => if v = 0 then [] else [(a, v)]
  | (b, w) :: t, a, v =>
    if a < b then (if v = 0 then (b, w) :: t else (a, v) :: (b, w) :: t)
    else if a = b then (if v = 0 then t else (a, v) :: t)
    else (b, w) :: Memory.write t a v

/-- Whether every listed address lies above a bound, addresses rise strictly and no entry is 0. -/
def Memory.wfFrom : Nat → Memory → Bool
  | _, [] => true
  | lo, (a, v) :: t => decide (lo ≤ a) && decide (v ≠ 0) && Memory.wfFrom (a + 1) t

/-- The canonical form of a buffer. -/
def Memory.wf (m : Memory) : Bool := Memory.wfFrom 0 m

/-- A function of bytes applied to every listed entry; one that keeps 0 at 0 acts on every address. -/
def Memory.mapBytes (f : Byte → Byte) : Memory → Memory
  | [] => []
  | (a, v) :: t => if f v = 0 then Memory.mapBytes f t else (a, f v) :: Memory.mapBytes f t

/-- The writes of a list of address and value pairs, in order. -/
def Memory.writeAll (m : Memory) (l : List (Nat × Byte)) : Memory := l.foldl (fun m p => m.write p.1 p.2) m

/-! ### Transmission (R206, R214) -/

/-- The duration of a frame of `n` payload bytes in nanoseconds, rounded up: 9 + n characters of ten bits (R206). -/
def frameTime (rate n : Nat) : Nat := ((9 + n) * 10000 + (rate - 1)) / rate

/-- The arbiter of R214: when the transmitter is idle on an UP link it takes the oldest reply, else the oldest notice;
a place freed by a notice while the lost-notice count is above 0 takes a NOTICES_LOST notice at once (R215). -/
def State.kick (s : State) : State :=
  if s.link.up && s.link.tx.isNone then
    match s.link.replies, s.link.notices with
    | r :: rs, _ =>
      s.modLink (fun l =>
        { l with replies := rs, tx := some ⟨r.frame, s.clock.now + frameTime l.rate r.payload.length⟩ })
    | [], n :: ns =>
      s.modLink (fun l =>
        { l with
          tx := some ⟨n.frame, s.clock.now + frameTime l.rate n.payload.length⟩
          notices := if 0 < l.lost then ns ++ [.noticesLost l.lost] else ns
          lost := 0 })
    | [], [] => s
  else s

/-- A notice is offered to the Link Interface (R215). -/
def State.offer (s : State) (n : Notice) : State :=
  if s.link.up && s.link.mask.getLsbD n.ix then
    if s.link.notices.length < 32 then
      (s.modLink (fun l => { l with notices := l.notices ++ [n] })).kick
    else s.modLink (fun l => { l with lost := satAdd top16 l.lost 1 })
  else s

/-- A reply is appended to the reply queue (R212), and an idle transmitter begins it at once (R214). -/
def State.pushReply (s : State) (r : Reply) : State :=
  (s.modLink (fun l => { l with replies := l.replies ++ [r] })).kick

/-- A long operation of request `code` completes: its reply takes the reserved place; with the reservation cancelled it is
discarded (R213). -/
def State.completeLong (s : State) (code : Byte) (st : Status) (payload : List Byte) : State :=
  match s.link.reservations.find? (fun r => r.code == code) with
  | some r =>
    (s.modLink (fun l => { l with reservations := l.reservations.erase r })).pushReply ⟨r.tag, code, st, payload⟩
  | none => s

/-! ### Dispatch (R212) -/

/-- What an owning block answers: a reply at once, or nothing yet for a long operation it accepts, or nothing at all for
RESET, whose own rule queues its reply. -/
inductive Answer where
  | reply (st : Status) (payload : List Byte)
  | accepted
  | done
  deriving DecidableEq, Repr

/-- An answer with status OK and no payload. -/
def ansOk : Answer := .reply .ok []

/-- Whether the dispatcher takes this request now: the link is UP, a place of the reply queue is free counting the
reservations, and the request is the oldest waiting frame, or no frame waits and it is taken as it arrives (R212). A frame
has just arrived only with the receiver in HUNT: in BREAK no byte is taken (R210), and a frame in progress is another one
(log entry 15). -/
def State.takes (s : State) (code tag : Byte) (payload : List Byte) : Bool :=
  s.link.up && decide (s.link.replies.length + s.link.reservations.length < 8) &&
    match s.link.rxq with
    | [] => decide (s.link.rx = .hunt)
    | f :: _ => decide (f.code = code ∧ f.tag = tag ∧ f.payload = payload)

/-- The frame taken leaves the receive queue. -/
def State.takeFrame (s : State) : State := s.modLink (fun l => { l with rxq := l.rxq.tail })

/-- What becomes of an owner's answer (R212, R213). -/
def State.answer (s : State) (code tag : Byte) : Answer → State
  | .reply st payload => s.pushReply ⟨tag, code, st, payload⟩
  | .accepted => s.modLink (fun l => { l with reservations := l.reservations ++ [⟨tag, code⟩] })
  | .done => s

/-- R212: the dispatcher takes a request, answers BAD_LENGTH itself for a payload length that Table 52 does not allow, and
otherwise hands the request to its owner. A request that cannot be taken now changes nothing. No rule orders an immediate
reply against the notices that the request makes its owner offer; the notices are offered first, so that an idle transmitter
sends the first of them before the reply (log entry 38). -/
def request (code : Byte) (allowed : Nat → Bool) (owner : List Byte → State → Answer × State) (tag : Byte)
    (payload : List Byte) (s : State) : Host.Outcome State Fault Refusal :=
  if s.takes code tag payload then
    if allowed payload.length then
      let r := owner payload s.takeFrame
      .next (r.2.answer code tag r.1)
    else .next (s.takeFrame.pushReply ⟨tag, code, .badLength, []⟩)
  else .next s

/-- A request that only reads: its reply is formed from the state as it stands when it is taken. -/
def readOnly (f : List Byte → State → Status × List Byte) : List Byte → State → Answer × State :=
  fun p s => (.reply (f p s).1 (f p s).2, s)

/-- The allowed length of a request with a payload of one size. -/
def len (n : Nat) : Nat → Bool := fun k => k == n

/-! ### Vectors -/

/-- Whether every position of a vector of flags is clear or set as `p` says. -/
def modAt {α : Type} {n : Nat} (v : Vector α n) (i : Fin n) (f : α → α) : Vector α n := v.set i (f v[i])

end Sys2Proof.Machine
end

