-- ==== Sys2Proof/Machine/Flags.lean ====
section
/-! DEFINITION. Conditions and outputs that follow from the state as it stands: readiness, the evaluation gate, the limit
line, the LEDs, the outputs of the power state, the top condition. -/

namespace Sys2Proof.Machine

/-! ### Acquisition -/

/-- The states with a capture in flight (Table 27). -/
def AcqSt.inFlight : AcqSt → Bool
  | .preFill | .armed | .postFill | .commitWait => true
  | _ => false

/-- Acquisition is STOPPED. -/
def State.stopped (s : State) : Bool := decide (s.acq.st = .stopped)

/-! ### Front end -/

/-- The required words, which follow the live setup at every write (R58). -/
def State.requiredWords (s : State) : Vector FeWord 4 := Vector.ofFn (feWordOf s.setup.live)

/-- READY under R63. -/
def State.feReadyNow (s : State) : Bool :=
  decide (s.fe.cond = .up) && s.fe.port.isNone && s.fe.settleEnd.isNone && decide (s.fe.latched = s.requiredWords)

/-- The readiness is presented: a change since the last presentation hands "settling began" or "settling ended" (R63). -/
def State.showReadiness (s : State) : State :=
  if s.feReadyNow = s.fe.readyShown then s
  else (s.modBoxes (fun b => { b with settle := b.settle ++ [!s.feReadyNow] })).modFe
    (fun f => { f with readyShown := s.feReadyNow })

/-! ### Evaluation gate -/

/-- The gate of R138 is CLOSED. -/
def State.gateShutNow (s : State) : Bool :=
  decide (s.fld idFailstop = 1) && (decide (s.meas.ns < s.ring.counter) || s.meas.failFlag)

/-- The gate is presented: a change from CLOSED to OPEN hands the gate-opened announcement (R138). -/
def State.showGate (s : State) : State :=
  if s.meas.gateShut && !s.gateShutNow then
    (s.modBoxes (fun b => { b with gateOpens := b.gateOpens + 1 })).modMeas (fun m => { m with gateShut := false })
  else s.modMeas (fun m => { m with gateShut := s.gateShutNow })

/-! ### Limit line (R142) -/

/-- The level of the limit line's state machine: true in ASSERTED and RELEASE_PENDING. -/
def LineSt.level : LineSt → Bool
  | .asserted | .releasePending => true
  | _ => false

/-- The logical level of the limit line (R142). -/
def State.lineLevel (s : State) : Bool :=
  match s.meas.override with
  | .auto => s.meas.line.level
  | .forceTrue => true
  | .forceFalse => false

/-- The electrical level of the limit line (high is true): in STANDBY the false level of LOUT_POL (R142). -/
def State.linePin (s : State) : Bool :=
  let high := decide (s.fld idLoutPol = 0)
  if s.power.st = .standby then !high else (s.lineLevel == high)

/-! ### LEDs (R50, R51) -/

/-- What an LED shows, numbered as Table 58 does. -/
inductive LedShown where
  | dark
  | lit
  | amber
  | green
  deriving DecidableEq, Repr

def LedShown.code : LedShown → Nat
  | .dark => 0 | .lit => 1 | .amber => 2 | .green => 3

def litIf (b : Bool) : LedShown := if b then .lit else .dark

/-- Table 19: what the source of an automatic LED alone would show. -/
def State.ledSource (s : State) (i : Fin 12) : LedShown :=
  match i.val with
  | 0 =>
    match s.power.st with
    | .standby => .amber
    | .on => .green
    | _ => if s.panel.blinkGreen then .green else .dark
  | 1 => litIf (decide (s.fld (idChOn 0) = 1))
  | 2 => litIf (decide (s.fld (idChOn 1) = 1))
  | 3 => litIf (decide (s.fld (idChOn 2) = 1))
  | 4 => litIf (decide (s.fld (idChOn 3) = 1))
  | 5 => litIf (!s.stopped)
  | 6 => litIf s.stopped
  | 7 => litIf (decide (s.acq.mode = .single) && !s.stopped)
  | 8 => litIf (decide (s.acq.st = .armed))
  | 9 => litIf (decide (s.meas.devVerdict = .fail))
  | 10 => litIf (decide (s.fld idSegmented = 1))
  | _ => litIf (decide (s.fld idTmode = 0))

/-- The condition that automatic LED `i` shows (R50, R51): in STANDBY LEDs 1..23 are dark. -/
def State.ledAuto (s : State) (i : Fin 12) : LedShown :=
  if s.power.st = .standby ∧ i ≠ 0 then .dark
  else
    match s.panel.overrides[i] with
    | .auto => s.ledSource i
    | .forceOn => if i = 0 then .green else .lit
    | .forceOff => .dark

/-- The condition that host LED 12 + `i` shows (R51). -/
def State.ledHost (s : State) (i : Fin 12) : LedShown :=
  if s.power.st = .standby then .dark else litIf s.panel.hostLeds[i]

/-! ### Power outputs (Table 44, R165) -/

/-- The host-power-enable output: low in STANDBY alone. -/
def State.hostPower (s : State) : Bool := decide (s.power.st ≠ .standby)

/-- The duty of the backlight in percent (R165). -/
def State.backlightDuty (s : State) : Int := if s.power.st = .standby then 0 else s.fld idBacklight

/-- The store-busy state of GET_STATUS (R184). -/
def State.storeBusy (s : State) : Bool :=
  match s.store.st with
  | .idle => false
  | _ => true

/-! ### Top condition (R218) -/

/-- The top condition of GET_STATUS, numbered as Table 58 does. -/
def State.topCondition (s : State) : Nat :=
  if s.link.latched.toList.any id then 1
  else if s.fe.cond = .fault then 2
  else if s.meas.devVerdict = .fail then 3
  else if !s.panel.queue.isEmpty then 4
  else 0

end Sys2Proof.Machine
end

