-- ==== Sys2Proof/Machine/SetupOps.lean ====
section
/-! DEFINITION. The apply path of the Setup Controller: announcements (R9), checks (R10), field changes (R11, R12),
whole-setup replacements (R16, R17), the undo stack (R19 to R22). -/

namespace Sys2Proof.Machine

/-- The class of a field named by id. -/
def classOf (id : Nat) : Option FieldClass := (fieldIx id).map fieldClass

/-- Whether an announcement changes a field of a class. -/
def SetupAnn.touches (a : SetupAnn) (c : FieldClass) : Bool := a.changes.any (fun ch => classOf ch.id == some c)

/-- Whether an announcement changes one of some fields. -/
def SetupAnn.changesAny (a : SetupAnn) (ids : List Nat) : Bool := a.changes.any (fun ch => ids.contains ch.id)

/-- The ids of CH_ON. -/
def chOnIds : List Nat := [10, 20, 30, 40]

/-- Table 12: whether the Front-End Controller is informed. -/
def SetupAnn.toFe (a : SetupAnn) : Bool := a.whole || a.touches .fe || a.changesAny (idTsrc :: chOnIds)

/-- Table 12: whether the Acquisition Engine is informed. -/
def SetupAnn.toAcq (a : SetupAnn) : Bool :=
  a.whole || a.touches .fe || a.touches .acq || a.touches .geom || a.touches .trig

/-- Table 12: whether the Record Ring is informed. -/
def SetupAnn.toRing (a : SetupAnn) : Bool := a.whole || a.touches .geom

/-- Table 12: whether the Measurement Unit is informed. -/
def SetupAnn.toMeas (a : SetupAnn) : Bool := a.whole || a.touches .meas

/-- Table 12: whether the Waveform Display is informed. -/
def SetupAnn.toDisp (a : SetupAnn) : Bool :=
  a.whole || a.touches .fe || a.touches .disp || a.changesAny [idTdiv, idHpos]

/-- Table 12: whether the Panel Scanner is informed. -/
def SetupAnn.toPanel (a : SetupAnn) : Bool := a.whole || a.touches .panel

/-- An announcement is put on its way when the block is informed. -/
def addIf {α : Type} (b : Bool) (l : List α) (a : α) : List α := if b then l ++ [a] else l

/-- R9: one announcement is handed to each block that Table 12 lists. -/
def State.announce (s : State) (a : SetupAnn) : State :=
  s.modBoxes (fun b =>
    { b with
      fe := addIf a.toFe b.fe a
      acq := addIf a.toAcq b.acq a
      ring := addIf a.toRing b.ring a
      meas := addIf a.toMeas b.meas a
      disp := addIf a.toDisp b.disp a
      panel := addIf a.toPanel b.panel a })

/-- A change of a slot's field during an evaluation excludes the slot at its completion (R127). -/
def Eval.noteChanges (e : Eval) (chs : List Change) : Eval :=
  { e with dirty := Vector.ofFn (fun m : Fin 6 =>
      e.dirty[m] || chs.any (fun c => decide (idSlot m 0 ≤ c.id ∧ c.id ≤ idSlot m 5))) }

/-- What follows at once from a write of the live setup: the readiness of R63, the gate of R138 and the evaluation in
flight see the new values. -/
def State.setupWritten (s : State) (chs : List Change) : State :=
  ((s.modMeas (fun m => { m with eval := m.eval.map (·.noteChanges chs) })).showReadiness).showGate

/-- Whether a write of the live setup turns FAILSTOP off (R140). -/
def State.failstopOff (s : State) (v : SetupVals) : Bool := decide (s.fld idFailstop ≠ 0 ∧ v.at idFailstop = 0)

/-- The live setup is written and the generation is raised (R11, R13, R16). FAILSTOP turned off clears the
fail-stop-outstanding flag at once (R140). -/
def State.writeSetup (s : State) (v : SetupVals) (chs : List Change) : State :=
  ((s.modSetup (fun u => { u with live := v, gen := (u.gen + 1) % 65536 })).modMeas (fun m =>
    { m with failFlag := m.failFlag && !s.failstopOff v })).setupWritten chs

/-- R20: a push onto the undo stack; a full stack loses its oldest entry. -/
def pushUndo (l : List UndoEntry) (e : UndoEntry) : List UndoEntry :=
  (if 16 ≤ l.length then l.drop 1 else l) ++ [e]

/-- R21: whether a KNOB change of field `i` from encoder `e` at `t` ms merges into the top entry. -/
def mergesInto (i : Fin 87) (e : Fin 12) (t : Nat) : Option UndoEntry → Bool
  | some (.field j _ src enc tm) => decide (j = i ∧ src = .knob ∧ enc = some e ∧ t ≤ tm + 1000)
  | _ => false

/-- The undo record of an applied field change (step 3 of R11, R21). -/
def recordUndo (l : List UndoEntry) (i : Fin 87) (old : Int) (src : Source) (enc : Option (Fin 12)) (t : Nat) :
    List UndoEntry :=
  match src, enc with
  | .knob, some e =>
    match l.getLast? with
    | some (.field j prev src' enc' tm) =>
      if mergesInto i e t (some (.field j prev src' enc' tm)) then l.dropLast ++ [.field j prev src' enc' t]
      else pushUndo l (.field i old .knob (some e) t)
    | _ => pushUndo l (.field i old .knob (some e) t)
  | .undo, _ => l
  | _, _ => pushUndo l (.field i old src enc t)

/-- R11 and R12: a field change whose value has been checked. -/
def State.applyField (s : State) (i : Fin 87) (v : Int) (src : Source) (enc : Option (Fin 12)) : State :=
  let old := s.setup.live[i]
  if old = v then s
  else
    let id := (fieldInfo i).id
    let ch : Change := ⟨id, old, v⟩
    let s1 := s.writeSetup (s.setup.live.set i v) [ch]
    let s2 := s1.modSetup (fun u => { u with undo := recordUndo u.undo i old src enc s.msNow })
    let s3 := s2.announce ⟨[ch], false, src, s2.setup.gen⟩
    if src = .host then s3 else s3.offer (.setupChanged id v src s3.setup.gen)

/-- The outcome of R10's check of a proposed value. -/
inductive Checked where
  | value (v : Int) (clamped : Bool)
  | refused
  deriving DecidableEq, Repr

/-- R10, sources HOST and KEY: NUMBER and INDEX values are clamped, a CHOICE value outside its set is refused. -/
def checkValue (f : FieldInfo) (v : Int) : Checked :=
  match f.kind with
  | .choice => if f.admits v then .value v false else .refused
  | _ => .value (clampI v f.lo f.hi) (!f.admits v)

/-- R10 for a KEY change: a refused value has no effect. -/
def State.keyChange (s : State) (id : Nat) (v : Int) : State :=
  match fieldIx id with
  | none => s
  | some i =>
    match checkValue (fieldInfo i) v with
    | .value v' _ => s.applyField i v' .key none
    | .refused => s

/-- The changes that a complete set of values makes to the live setup. -/
def changesTo (old new : SetupVals) : List Change :=
  ((List.finRange 87).filter (fun i => old[i] != new[i])).map (fun i => ⟨(fieldInfo i).id, old[i], new[i]⟩)

/-- A source whose replacement is always applied (R17). -/
def Source.always : Source → Bool
  | .powerUp | .reset => true
  | _ => false

/-- Step 2 of R16: what a replacement does to the undo stack. -/
def undoAfterReplacement (l : List UndoEntry) (old : SetupVals) (src : Source) : List UndoEntry :=
  if src.always then []
  else if src = .undo then l
  else pushUndo l (.snapshot old)

/-- R16 and R17: a whole-setup replacement with values that have been checked. -/
def State.replaceSetup (s : State) (v : SetupVals) (src : Source) (reason : Reason) : State :=
  let chs := changesTo s.setup.live v
  if chs.isEmpty && !src.always then s
  else
    let s1 := s.modSetup (fun u => { u with undo := undoAfterReplacement u.undo u.live src })
    let s2 := s1.writeSetup v chs
    let s3 := s2.announce ⟨chs, src.always, src, s2.setup.gen⟩
    if src = .host then s3 else s3.offer (.setupReplaced src s3.setup.gen reason)

/-- Step 1 of R16 for RECALL and POWER_UP: a value of a stored slot, adjusted into its field. -/
def adjustStored (f : FieldInfo) (v : Int) : Int :=
  if f.admits v then v
  else
    match f.kind with
    | .choice => f.dflt
    | _ => clampI v f.lo f.hi

/-- The stored values of a slot, adjusted field by field (R16). -/
def adjustAll (v : SetupVals) : SetupVals := Vector.ofFn (fun i => adjustStored (fieldInfo i) v[i])

/-- R26: the replacement by the defaults. -/
def State.applyDefaults (s : State) : State := s.replaceSetup defaultVals .dflt .normal

/-- R22: the top entry is removed and applied with source UNDO; nothing on an empty stack. -/
def State.applyUndo (s : State) : State :=
  match s.setup.undo.getLast? with
  | none => s
  | some e =>
    let s1 := s.modSetup (fun u => { u with undo := u.undo.dropLast })
    match e with
    | .field i prev _ _ _ => s1.applyField i prev .undo none
    | .snapshot vals => s1.replaceSetup vals .undo .normal

end Sys2Proof.Machine
end

