-- ==== Sys2Proof/Machine/RingOps.lean ====
section
/-! DEFINITION. The Record Ring's operations (chapter 6): lookup, discards, the geometry check and the rebuild, claims,
commits, the pin. -/

namespace Sys2Proof.Machine

/-- The record of a number in the ring order. -/
def Ring.find (r : Ring) (n : Nat) : Option Record := r.order.find? (fun x => x.number == n)

/-- The newest record. -/
def Ring.newest (r : Ring) : Option Record := r.order.getLast?

/-- Whether a host lock names a record (R114). -/
def Ring.locked (r : Ring) (n : Nat) : Bool := r.lock1 == some n || r.lock2 == some n

/-- Whether a lock entry names a record. -/
def Ring.anyLock (r : Ring) : Bool := r.lock1.isSome || r.lock2.isSome

/-- A record is discardable when no lock and no pin names it (R106). -/
def Ring.discardable (r : Ring) (n : Nat) : Bool := !r.locked n && !(r.pin == some n)

/-- Whether a slot is FILLING. -/
def Ring.filling (r : Ring) : Bool := r.slots.any (fun x => x == .filling)

/-- The record numbers are exhausted (R107). -/
def Ring.exhausted (r : Ring) : Bool := r.counter == top32

/-- An announcement is handed to the Waveform Display and to the Measurement Unit (R110, R111). -/
def State.announceRing (s : State) (a : RingAnn) : State :=
  s.modBoxes (fun b => { b with measRing := b.measRing ++ [a], dispRing := b.dispRing ++ [a] })

/-- A record leaves the ring order and its slot becomes EMPTY (R111). -/
def Ring.remove (r : Ring) (x : Record) : Ring :=
  { r with order := r.order.filter (fun y => y.number != x.number), slots := r.slots.set x.slot .empty }

/-- R111: a record is discarded at a claim, an offer, a CLEAR or a segmented start. -/
def State.discardRecord (s : State) (x : Record) : State :=
  (s.modRing (·.remove x)).announceRing (.discard x.number)

/-- The discards of a list of records, oldest first. -/
def State.discardAll (s : State) (l : List Record) : State := l.foldl State.discardRecord s

/-- A pin is cancelled and the Waveform Display is told (R113). -/
def State.cancelPin (s : State) : State :=
  match s.ring.pin with
  | none => s
  | some n =>
    (s.modRing (fun r => { r with pin := none })).modBoxes
      (fun b => { b with dispRing := b.dispRing ++ [.pinCancelled n] })

/-- Whether the geometry of the live setup is the built one (R121). -/
def State.geomBuilt (s : State) : Bool :=
  decide (s.liveGeom.leff = s.ring.leff ∧ s.liveGeom.w = s.ring.w)

/-- R122: the ring discards every record, divides the memory anew and announces the rebuild to three blocks. -/
def State.rebuild (s : State) : State :=
  let s1 := s.cancelPin
  let g := s.liveGeom
  let c := capacityOf g.leff g.w
  let s2 := s1.modRing (fun r =>
    { r with order := [], slots := List.replicate c .empty, leff := g.leff, w := g.w, cap := c, geomPending := false
             waitRebuild := false })
  (s2.announceRing .emptied).modBoxes (fun b => { b with rebuilds := b.rebuilds + 1 })

/-- R121: the geometry check. -/
def State.geomCheck (s : State) : State :=
  if s.geomBuilt && !s.ring.geomPending then s
  else if s.ring.anyLock then s.modRing (fun r => { r with geomPending := true })
  else if s.ring.filling then s
  else s.rebuild

/-- The answer to a claim (R108). -/
inductive ClaimAns where
  | granted (slot : Nat)
  | none
  | pending
  deriving DecidableEq, Repr

/-- A slot becomes FILLING and no claim waits for a slot any longer (R108, R109). -/
def State.grantSlot (s : State) (i : Nat) : State :=
  s.modRing (fun r => { r with slots := r.slots.set i .filling, waitSlot := false })

/-- Steps 1 to 4 of R108: the slot granted, or none, with the note that a claim is waiting for a slot. -/
def State.claimSteps (s : State) : Option Nat × State :=
  if s.ring.exhausted then (none, s.modRing (fun r => { r with waitSlot := true }))
  else
    let i := s.ring.slots.findIdx (fun x => x == .empty)
    if i < s.ring.slots.length then (some i, s.grantSlot i)
    else
      match s.ring.order.find? (fun x => s.ring.discardable x.number) with
      | some x => (some x.slot, (s.discardRecord x).grantSlot x.slot)
      | none => (none, s.modRing (fun r => { r with waitSlot := true }))

/-- R108: a claim. A check that leaves a rebuild pending answers PENDING and notes that a claim waits for it. -/
def State.claim (s : State) : ClaimAns × State :=
  let s1 := s.geomCheck
  if s1.ring.geomPending || !s1.geomBuilt then (.pending, s1.modRing (fun r => { r with waitRebuild := true }))
  else
    match s1.claimSteps with
    | (some i, s2) => (.granted i, s2)
    | (none, s2) => (.none, s2)

/-- The slot of a discarded capture (R111), or of a declined offer (R109), returns to EMPTY, and the geometry is checked. -/
def State.freeSlot (s : State) (i : Nat) : State :=
  (s.modRing (fun r => { r with slots := r.slots.set i .empty })).geomCheck

/-- R109: the engine withdraws its claim. An offer on its way, whose release fell together with the withdrawal and was taken
first, finds the engine in another state and is declined (log entry 40), before anything else can claim a slot: at most one
slot is FILLING (R106). -/
def State.withdrawClaim (s : State) : State :=
  s.boxes.offers.foldl State.freeSlot
    ((s.modRing (fun r => { r with waitSlot := false, waitRebuild := false })).modBoxes (fun b => { b with offers := [] }))

/-- R110: a commit of the record of the FILLING slot; its number is assigned here. -/
def State.commitRecord (s : State) (x : Record) : State :=
  let n := s.ring.counter + 1
  let s1 := s.modRing (fun r =>
    { r with slots := r.slots.set x.slot .held, counter := n, order := r.order ++ [{ x with number := n }] })
  let s2 := (s1.announceRing (.commit n)).showGate
  (s2.offer (.recordDone n x.trigTime x.cause)).geomCheck

/-- R113: a pin request; true when it is granted. -/
def State.requestPin (s : State) (n : Nat) : Bool × State :=
  if s.ring.pin.isNone && (s.ring.find n).isSome then (true, s.modRing (fun r => { r with pin := some n }))
  else (false, s)

/-- R120: a segmented start discards every record that no lock names; a pin on one of them is cancelled. R120 does not order
the cancellation's announcement against those of the discards; it is handed first (log entry 42). -/
def State.segmentedDiscard (s : State) : State :=
  let gone := s.ring.order.filter (fun x => !s.ring.locked x.number)
  let s1 := if gone.any (fun x => s.ring.pin == some x.number) then s.cancelPin else s
  s1.discardAll gone

/-- R123: the ring at a RESET request and at standby entry; a FILLING slot is kept for the engine. That the display is handed
the cancellation of the pin before the emptied announcement is DESIGN CHOICE (log entry 42). -/
def State.resetRing (s : State) : State :=
  let s1 := s.cancelPin
  let s2 := s1.modRing (fun r =>
    { r with
      order := [], counter := 0, lock1 := none, lock2 := none, geomPending := false
      slots := r.slots.map (fun x => if x == .filling then .filling else .empty) })
  (s2.announceRing .emptied).geomCheck.showGate

end Sys2Proof.Machine
end

