-- ==== Sys2Proof/Machine/MeasOps.lean ====
section
/-! DEFINITION. The Measurement Unit's operations (chapter 7): scheduling and start of evaluations, the measurement
formulas, statistics, limit test, verdicts, the limit line. -/

namespace Sys2Proof.Machine

/-! ### Scheduling (R125, R126, R128) -/

/-- The settings of slot `m` in the live setup (R126). -/
def State.slotCfg (s : State) (m : Fin 6) : SlotCfg :=
  { kind := s.fld (idSlot m 0), src := s.fld (idSlot m 1), loOn := decide (s.fld (idSlot m 2) = 1)
    lo := s.fld (idSlot m 3), hiOn := decide (s.fld (idSlot m 4) = 1), hi := s.fld (idSlot m 5) }

/-- The points of a record's screen window [start, start + P) (R75). -/
def windowOf (g : Geom) (pts : List PointRow) : List PointRow := (pts.drop g.start).take g.p

/-- R126: what an evaluation of a record copies and reads at its start. -/
def State.newEval (s : State) (x : Record) (k : EvalKind) : Eval :=
  { record := x.number, kind := k, cfg := Vector.ofFn s.slotCfg, zeroband := s.fld idZeroband, chans := x.chans
    mode := x.mode, geom := x.geom, window := windowOf x.geom x.points, rate := s.acq.rateHeld
    dirty := Vector.replicate 6 false, cleared := false }

/-- The evaluator becomes BUSY with an evaluation (R126). -/
def State.startEval (s : State) (x : Record) (k : EvalKind) : State :=
  s.modMeas (fun m => { m with eval := some (s.newEval x k) })

/-- The record that a re-evaluation takes: the shown-record selection of the Waveform Display (R128). -/
def State.shownRecord (s : State) : Option Record :=
  match s.disp.sel with
  | none => s.ring.newest
  | some n => s.ring.find n

/-- R128: the pending request is taken: a re-evaluation starts, or every result becomes NO_RECORD, with the origin of log
entry 17. -/
def State.startReEval (s : State) : State :=
  match s.shownRecord with
  | some x => s.startEval x .re
  | none => s.modMeas (fun m => { m with results := Vector.replicate 6 noRecordResult })

/-- Cases 1 and 2 of R125: Ns and the skipped count move past the records that are passed over, and the newest record
above Ns is taken for a first evaluation. True when one was. -/
def State.scheduleFirst (s : State) : Bool × State :=
  match s.ring.newest with
  | some x =>
    if s.meas.ns < x.number then
      (true, (s.modMeas (fun m =>
        { m with skipped := satAdd top32 m.skipped (x.number - 1 - m.ns), ns := x.number - 1 })).startEval x .first)
    else (false, s)
  | none => (false, s)

/-- R125 at a scheduling point of an IDLE evaluator. -/
def State.measSchedule (s : State) : State :=
  match s.scheduleFirst with
  | (true, s1) => s1
  | (false, s1) =>
    if s1.meas.ns < s1.ring.counter then
      (s1.modMeas (fun m =>
        { m with skipped := satAdd top32 m.skipped (s1.ring.counter - m.ns), ns := s1.ring.counter })).showGate
    else if s1.meas.reReq then
      let s2 := s1.modMeas (fun m => { m with reReq := false })
      if s2.stopped then s2.startReEval else s2
    else s1

/-- A scheduling point that counts only while the evaluator is IDLE (R125). -/
def State.measPoint (s : State) : State := if s.meas.eval.isNone then s.measSchedule else s

/-- A re-evaluation request (R128). -/
def State.requestReEval (s : State) : State :=
  if s.stopped then (s.modMeas (fun m => { m with reReq := true })).measPoint else s

/-- The unit takes a commit announcement when it is the oldest of the ring's announcements to it. -/
def State.measTakeCommit (s : State) : State :=
  match s.boxes.measRing with
  | .commit _ :: rest => (s.modBoxes (fun b => { b with measRing := rest })).measPoint
  | _ => s

/-! ### Formulas (R129 to R133) -/

/-- The values of a channel over a window: one a point, or the minimum and then the maximum (R129). -/
def valuesOf (mode : Int) (w : List PointRow) (c : Fin 4) : List Int :=
  if mode = 1 then w.flatMap (fun r => [r[c].lo, r[c].hi]) else w.map (fun r => r[c].lo)

/-- The point index of each value of `valuesOf`, from the window's start. -/
def valueIndices (mode : Int) (start : Nat) (w : List PointRow) : List Nat :=
  if mode = 1 then (List.range w.length).flatMap (fun i => [start + i, start + i])
  else (List.range w.length).map (fun i => start + i)

/-- Steps 2 and 3 of R132: the indices of the rising crossings. -/
def risingIndices (mid hy : Int) : Bool → List (Int × Nat) → List Nat
  | _, [] => []
  | primed, (c, i) :: rest =>
    let cross := primed && decide (mid + hy ≤ c)
    let primed' := (primed && !cross) || decide (c ≤ mid - hy)
    if cross then i :: risingIndices mid hy primed' rest else risingIndices mid hy primed' rest

/-- A formed value with its status. -/
abbrev Formed := ResStatus × Int

/-- R130, MEAN. -/
def meanOf (vals : List Int) (vdiv : Nat) (zb : Int) : Formed :=
  let n : Int := vals.length
  if (vals.sum.natAbs : Int) < zb * n then (.zeroed, 0)
  else (.valid, roundDiv (vals.sum * vdiv) (100 * n))

/-- The sum of squares of R129. -/
def sumSquares (vals : List Int) : Nat := (vals.map (fun v => v.natAbs * v.natAbs)).sum

/-- R130, RMS_DC. -/
def rmsDcOf (vals : List Int) (vdiv : Nat) (zb : Int) : Formed :=
  let n := vals.length
  let q2 := sumSquares vals
  if (q2 : Int) < zb * zb * n then (.zeroed, 0)
  else (.valid, rootDiv (q2 * (vdiv * vdiv)) (n * 10000))

/-- R130, RMS_AC. -/
def rmsAcOf (vals : List Int) (vdiv : Nat) (zb : Int) : Formed :=
  let n := vals.length
  let d := n * sumSquares vals - vals.sum.natAbs * vals.sum.natAbs
  if (d : Int) < zb * zb * n * n then (.zeroed, 0)
  else (.valid, rootDiv (d * (vdiv * vdiv)) (n * n * 10000))

/-- R132: PERIOD in ps, none for NO_RESULT. -/
def periodOf (vals : List Int) (ixs : List Nat) (d : Nat) : Option Int :=
  let mx := maxOf vals
  let mn := minOf vals
  if mx - mn < 4 then none
  else
    let mid := (mx + mn) / 2
    let hy := max 1 ((mx - mn) / 20)
    let cs := risingIndices mid hy false (vals.zip ixs)
    match cs.head?, cs.getLast? with
    | some i, some j =>
      if cs.length < 2 then none
      else some (roundDiv (((j - i) * d * 1000 : Nat) : Int) ((cs.length - 1 : Nat) : Int))
    | _, _ => none

/-- R132: FREQ in mHz from PERIOD. -/
def freqOf (period : Int) : Int := roundDiv 1000000000000000 period

/-- The channel that a CHOICE value 0..3 names. -/
def chanOf (v : Int) : Option (Fin 4) := if h : v.toNat < 4 ∧ 0 ≤ v then some ⟨v.toNat, h.1⟩ else none

/-- R129: the result of a kind that uses points, from the values of its source channel. -/
def formPoints (kind : Int) (vals : List Int) (ixs : List Nat) (vdiv d : Nat) (zb : Int) : Formed :=
  match kind.toNat with
  | 1 => meanOf vals vdiv zb
  | 2 => rmsDcOf vals vdiv zb
  | 3 => rmsAcOf vals vdiv zb
  | 4 => (.valid, (maxOf vals - minOf vals) * vdiv / 100)
  | 5 => (.valid, maxOf vals * vdiv / 100)
  | 6 => (.valid, minOf vals * vdiv / 100)
  | 7 =>
    match periodOf vals ixs d with
    | some t => (.valid, t)
    | none => (.noResult, 0)
  | _ =>
    match periodOf vals ixs d with
    | some t => (.valid, freqOf t)
    | none => (.noResult, 0)

/-- The result of slot `m` of an evaluation, with the trigger rate that counts for it (R129 to R133). -/
def Eval.form (e : Eval) (rate : Option Nat) (m : Fin 6) : SlotResult :=
  let c := e.cfg[m]
  if c.kind = 9 then
    match rate with
    | some n => ⟨n, .valid, false, some e.record, e.kind⟩
    | none => ⟨0, .noResult, false, some e.record, e.kind⟩
  else
    match chanOf c.src with
    | none => ⟨0, .noResult, false, some e.record, e.kind⟩
    | some ch =>
      if c.kind = 0 ∨ e.chans[ch].on = false then ⟨0, .noResult, false, some e.record, e.kind⟩
      else
        let vals := valuesOf e.mode e.window ch
        let ixs := valueIndices e.mode e.geom.start e.window
        let r := formPoints c.kind vals ixs (vdivOf e.chans[ch].vdiv) (2 ^ e.geom.dExp) e.zeroband
        ⟨r.2, r.1, e.window.any (fun p => p[ch].clipped), some e.record, e.kind⟩

/-! ### Statistics, limit test, verdicts (R134 to R137) -/

/-- Whether a result counts for statistics and the limit test. -/
def SlotResult.counts (r : SlotResult) : Bool := decide (r.status = .valid ∨ r.status = .zeroed)

/-- R134: the statistics of a slot after one more result. -/
def Stats.add (t : Stats) (v : Int) : Stats :=
  { count := satAdd top32 t.count 1
    range := match t.range with
      | none => some (v, v)
      | some (a, b) => some (min a v, max b v) }

/-- R135: whether a slot is tested. -/
def SlotCfg.tested (c : SlotCfg) (r : SlotResult) : Bool := r.counts && (c.loOn || c.hiOn)

/-- R135: the failure of a tested result: its side (true is HIGH) and its excess; the larger excess when both apply,
and for equal ones a side that the data sheet leaves open (log entry 7). -/
def SlotCfg.failure (c : SlotCfg) (v : Int) : Option (Bool × Int) :=
  let low := c.loOn && decide (v < c.lo)
  let high := c.hiOn && decide (c.hi < v)
  if low && high then
    if v - c.hi < c.lo - v then some (false, c.lo - v)
    else if c.lo - v < v - c.hi then some (true, v - c.hi)
    else some (Config.failSideAtTie c.lo c.hi v, v - c.hi)
  else if low then some (false, c.lo - v)
  else if high then some (true, v - c.hi)
  else none

/-- R135: a fail hold after a failure. -/
def holdAfter (h : Option FailHold) (v : Int) (f : Bool × Int) (n : Nat) : Option FailHold :=
  match h with
  | none => some ⟨v, f.1, f.2, n⟩
  | some x => if x.excess < f.2 then some ⟨v, f.1, f.2, n⟩ else some x

/-- The failure of slot `m` in an evaluation that it takes part in (R127, R135). -/
def Eval.slotFailure (e : Eval) (rs : Vector SlotResult 6) (m : Fin 6) : Option (Bool × Int) :=
  if !e.dirty[m] && e.cfg[m].tested rs[m] then e.cfg[m].failure rs[m].value else none

/-- The slots that fail in an evaluation. -/
def Eval.failedSlots (e : Eval) (rs : Vector SlotResult 6) : List (Fin 6) :=
  (List.finRange 6).filter (fun m => (e.slotFailure rs m).isSome)

/-- R136: the record verdict. -/
def Eval.verdict (e : Eval) (rs : Vector SlotResult 6) : Verdict :=
  if !(e.failedSlots rs).isEmpty then .fail
  else if (List.finRange 6).any (fun m => !e.dirty[m] && e.cfg[m].tested rs[m]) then .pass
  else .none

/-! ### The limit line (R141) -/

/-- R141: the line after a verdict: its state and the end of its timer. -/
def State.lineAfter (s : State) (v : Verdict) : LineSt × Option Nat :=
  let m := s.meas
  let later (id : Nat) : Nat := s.clock.now + (s.fld id).toNat * ms
  match v, m.line with
  | .fail, .deasserted =>
    if s.fld idLoutAssert = 0 then (.asserted, none) else (.assertPending, some (later idLoutAssert))
  | .fail, .releasePending => (.asserted, none)
  | .pass, .assertPending => (.deasserted, none)
  | .pass, .asserted =>
    if s.fld idLoutRelease = 0 then (.deasserted, none) else (.releasePending, some (later idLoutRelease))
  | _, l => (l, m.lineEnd)

/-- R54: a tone request; a tone of higher rank replaces the one that plays. True when the tone starts. -/
def State.tone (s : State) (rank freq durMs : Nat) : Bool × State :=
  let start := s.modPanel (fun p => { p with tone := some ⟨rank, freq, s.clock.now + durMs * ms⟩ })
  match s.panel.tone with
  | none => (true, start)
  | some t => if t.rank < rank then (true, start) else (false, s)

/-! ### Completion (R127) -/

/-- The results are written: those of slots that take part, unless a CLEAR was taken during the flight. -/
def State.writeResults (s : State) (e : Eval) (rs : Vector SlotResult 6) : State :=
  s.modMeas (fun m =>
    { m with results := Vector.ofFn (fun k : Fin 6 => if e.dirty[k] || e.cleared then m.results[k] else rs[k]) })

/-- R134 and R135: the statistics, fail counts and fail holds of a first evaluation. -/
def State.countResults (s : State) (e : Eval) (rs : Vector SlotResult 6) : State :=
  s.modMeas (fun m =>
    { m with
      stats := Vector.ofFn (fun k : Fin 6 =>
        if !e.dirty[k] && rs[k].counts then m.stats[k].add rs[k].value else m.stats[k])
      failCount := Vector.ofFn (fun k : Fin 6 =>
        if (e.slotFailure rs k).isSome then satAdd top16 m.failCount[k] 1 else m.failCount[k])
      hold := Vector.ofFn (fun k : Fin 6 =>
        match e.slotFailure rs k with
        | some f => holdAfter m.hold[k] rs[k].value f e.record
        | none => m.hold[k]) })

/-- R136 and R141: the record verdict, the device verdict with its notice, the FAIL tone and the limit line. -/
def State.applyVerdict (s : State) (e : Eval) (rs : Vector SlotResult 6) : State :=
  let v := e.verdict rs
  let before := s.meas.devVerdict
  let l := s.lineAfter v
  let dev := if v = .none then before else v
  let s1 := s.modMeas (fun m =>
    { m with recVerdict := v, recVerdictOf := e.record, devVerdict := dev, line := l.1, lineEnd := l.2 })
  let s2 := if dev = before then s1 else s1.offer (.limit dev e.record (e.failedSlots rs) l.1)
  if v = .fail ∧ s.fld idFailbeep = 1 then (s2.tone 3 2000 150).2 else s2

/-- R139: a FAIL record with FAILSTOP on sets the flag and hands the stop; in STOPPED the flag clears at once. -/
def State.applyFailStop (s : State) (v : Verdict) : State :=
  if v = .fail ∧ s.fld idFailstop = 1 then
    (s.modMeas (fun m => { m with failFlag := !s.stopped })).modBoxes (fun b => { b with failStops := b.failStops + 1 })
  else s

/-- R144: the MEAS_RESULT offer, at most once in 250 ms. -/
def State.offerResult (s : State) (e : Eval) : State :=
  let due := match s.meas.lastOffer with
    | none => true
    | some t => decide (t + 250 * ms ≤ s.clock.now)
  if due then
    (s.modMeas (fun m => { m with lastOffer := some s.clock.now })).offer (.measResult e.record e.kind s.meas.results)
  else s

/-- R127: the completion of the evaluation in flight. -/
def State.completeEval (s : State) (e : Eval) : State :=
  let rate := if e.kind = .first then s.acq.rateHeld else e.rate
  let rs := Vector.ofFn (e.form rate)
  let s1 := (s.modMeas (fun m => { m with eval := none })).writeResults e rs
  let s2 :=
    if e.kind = .first then
      ((((s1.modMeas (fun m => { m with ns := e.record })).countResults e rs).applyVerdict e rs).applyFailStop
        (e.verdict rs)).showGate
    else s1
  (s2.offerResult e).measSchedule

/-! ### Announcements to the unit -/

/-- R137: the statistics, fail count and fail hold of each slot whose fields changed are cleared. -/
def Meas.clearChanged (m : Meas) (a : SetupAnn) : Meas :=
  let hit (k : Fin 6) : Bool := a.changes.any (fun c => decide (idSlot k 0 ≤ c.id ∧ c.id ≤ idSlot k 5))
  { m with
    stats := Vector.ofFn (fun k : Fin 6 => if hit k then ⟨0, none⟩ else m.stats[k])
    failCount := Vector.ofFn (fun k : Fin 6 => if hit k then 0 else m.failCount[k])
    hold := Vector.ofFn (fun k : Fin 6 => if hit k then none else m.hold[k]) }

/-- R137 and R128: the unit takes an announcement of the Setup Controller. What FAILSTOP does to the gate and the flag happens
at the write (R140, `State.writeSetup`). -/
def State.measTakeSetup (s : State) (a : SetupAnn) : State :=
  let s1 := s.modMeas (·.clearChanged a)
  if a.touches .meas then s1.requestReEval else s1

/-- R145 and R127: the unit's state when it takes the clear announcement of a CLEAR: an evaluation in flight notes it; Ns
follows a counter that the CLEAR has returned to 0, and no other. The results' origin is that of log entry 17. -/
def Meas.takeClear (m : Meas) (counter : Nat) (ended : Bool) : Meas :=
  { m with
    results := Vector.replicate 6 noRecordResult, ns := if ended then min m.ns counter else m.ns
    eval := m.eval.map (fun e => { e with cleared := true }) }

/-- R145 and R125: the unit takes a discard, clear or emptied announcement of the Record Ring. -/
def State.measTakeRing (s : State) (a : RingAnn) : State :=
  match a with
  | .clear counter ended => ((s.modMeas (·.takeClear counter ended)).showGate).measPoint
  | _ => s.measPoint

end Sys2Proof.Machine
end

