-- ==== Sys2Proof/Machine/DispOps.lean ====
section
/-! DEFINITION. The Waveform Display's operations (chapter 8): mapping of points to pixels, hits, decay, scheduling of
rasterisations, the composition of a panel pixel. -/

namespace Sys2Proof.Machine

/-! ### Mapping (R153 to R155) -/

/-- R153: the row of a value. -/
def rowOf (c : Int) (vRec vLive : Nat) (pos : Int) : Nat :=
  (clampI (200 - (roundDiv (c * vRec) (2 * vLive) + pos)) 0 399).toNat

/-- R154: the column of a point index; floor divisions. -/
def columnOf (i : Nat) (npre d : Nat) (hpos : Int) (tdiv : Nat) : Int :=
  hpos / 2 + (((i : Int) - npre) * d * 50) / (tdiv : Int)

/-- The address of an area pixel in a plane (500 columns by 400 rows). -/
def planeAddr (x y : Nat) : Nat := 500 * y + x

/-- Consecutive values of one column gathered: the column and the rows of its values in order (R155). -/
def gatherColumns : List (Nat × Nat) → List (Nat × List Nat)
  | [] => []
  | (x, r) :: rest =>
    match gatherColumns rest with
    | (x', rs) :: t => if x = x' then (x, r :: rs) :: t else (x, [r]) :: (x', rs) :: t
    | [] => [(x, [r])]

/-- R155: the hit sets of a channel's drawn columns, from left to right; `last` is the last value of the previous one. -/
def columnHits : Option Nat → List (Nat × List Nat) → List Nat
  | _, [] => []
  | last, (x, rs) :: rest =>
    let all := rs ++ last.toList
    let lo := all.foldl min 399
    let hi := all.foldl max 0
    ((List.range (hi + 1 - lo)).map (fun k => planeAddr x (lo + k))) ++ columnHits rs.getLast? rest

/-- The values of a channel that land in the area, each with its column and row, in order (R153, R154). -/
def Raster.values (r : Raster) (c : Fin 4) : List (Nat × Nat) :=
  let vRec := vdivOf r.chans[c].vdiv
  let vLive := vdivOf r.vdiv[c]
  let d := 2 ^ r.geom.dExp
  (r.points.zip (List.range r.points.length)).flatMap (fun (p, i) =>
    let x := columnOf i r.geom.npre d r.hpos (tdivOf r.tdiv)
    if 0 ≤ x ∧ x < 500 then
      if r.mode = 1 then
        [(x.toNat, rowOf p[c].lo vRec vLive r.pos[c]), (x.toNat, rowOf p[c].hi vRec vLive r.pos[c])]
      else [(x.toNat, rowOf p[c].lo vRec vLive r.pos[c])]
    else [])

/-- R151: a channel is drawn when it is present in the record and CH_ON is on in the live copy. -/
def Raster.draws (r : Raster) (c : Fin 4) : Bool := r.chans[c].on && r.on[c]

/-- The hits of a rasterisation in the order of R151: channel by channel, column by column; each a channel and a plane
address. -/
def Raster.hits (r : Raster) : List (Fin 4 × Nat) :=
  (List.finRange 4).flatMap (fun c =>
    if r.draws c then (columnHits none (gatherColumns (r.values c))).map (fun a => (c, a)) else [])

/-- R156: the value of a pixel after a hit. -/
def hitValue (k : RasterKind) (persist : Int) (v : Byte) : Byte :=
  if k = .live ∧ persist ≠ 0 then byte (min 255 (v.toNat + 64)) else 255

/-- The planes after a list of hits. -/
def applyHits (k : RasterKind) (persist : Int) (planes : Vector Memory 4) (hs : List (Fin 4 × Nat)) : Vector Memory 4 :=
  hs.foldl (fun ps h => modAt ps h.1 (fun m => m.write h.2 (hitValue k persist (m.read h.2)))) planes

/-- The planes with the first `n` hits of the rasterisation in flight landed (R151). -/
def Display.landed (d : Display) (n : Nat) : Vector Memory 4 :=
  match d.raster with
  | some r => applyHits r.kind r.persist d.planes (r.hits.take n)
  | none => d.planes

/-! ### Decay (R157) -/

/-- One decay step of a value under PERSIST SHORT (1) or LONG (2); other settings decay nothing. -/
def decayValue (persist : Int) (v : Byte) : Byte :=
  if v = 0 then 0
  else if persist = 1 then byte (v.toNat - max 1 (v.toNat / 4))
  else if persist = 2 then byte (v.toNat - max 1 (v.toNat / 32))
  else v

/-- One decay step of every pixel of the four planes. -/
def decayPlanes (persist : Int) (ps : Vector Memory 4) : Vector Memory 4 :=
  Vector.ofFn (fun c : Fin 4 => ps[c].mapBytes (decayValue persist))

/-- `n` decay steps, one after another. -/
def decaySteps (persist : Int) : Nat → Vector Memory 4 → Vector Memory 4
  | 0, ps => ps
  | n + 1, ps => decaySteps persist n (decayPlanes persist ps)

/-- The pending decays are applied under PERSIST as it stands; the count returns to 0 (R157). -/
def State.applyDecays (s : State) : State :=
  s.modDisp (fun d => { d with planes := decaySteps (s.fld idPersist) d.decays d.planes, decays := 0 })

/-- A clear of the four planes (R147). -/
def State.clearPlanes (s : State) : State := s.modDisp (fun d => { d with planes := Vector.replicate 4 [] })

/-! ### Scheduling (R149, R150) -/

/-- What a rasterisation of a record copies at its start (R148). -/
def State.newRaster (s : State) (x : Record) (k : RasterKind) : Raster :=
  { record := x.number, kind := k, chans := x.chans, mode := x.mode, geom := x.geom, points := x.points
    on := Vector.ofFn (fun c => decide (s.fld (idChOn c) = 1))
    vdiv := Vector.ofFn (fun c => s.fld (idVdiv c))
    pos := Vector.ofFn (fun c => s.fld (idPos c))
    tdiv := s.fld idTdiv, hpos := s.fld idHpos, persist := s.fld idPersist }

/-- R150, steps 2 and 3: the rasteriser becomes BUSY; the planes are cleared for a REDRAW and for LIVE with PERSIST OFF. -/
def State.startRaster (s : State) (x : Record) (k : RasterKind) : State :=
  let r := s.newRaster x k
  let s1 := s.modDisp (fun d => { d with raster := some r })
  if k = .redraw ∨ r.persist = 0 then s1.clearPlanes else s1

/-- R150: a rasterisation of record `n`; true when its pin is granted and it starts. -/
def State.tryRaster (s : State) (n : Nat) (k : RasterKind) : Bool × State :=
  match s.requestPin n, s.ring.find n with
  | (true, s1), some x => (true, s1.startRaster x k)
  | _, _ => (false, s)

/-- Case 1 of R149, with the refusal of R150; true when a LIVE rasterisation starts. -/
def State.scheduleLive (s : State) : Bool × State :=
  match s.ring.newest with
  | some x =>
    if s.disp.nd < x.number then
      let s1 := s.modDisp (fun d =>
        { d with passed := satAdd top32 d.passed (x.number - 1 - d.nd), nd := x.number })
      match s1.tryRaster x.number .live with
      | (true, s2) => (true, s2)
      | (false, s2) => (false, s2.modDisp (fun d => { d with passed := satAdd top32 d.passed 1 }))
    else (false, s)
  | none => (false, s)

/-- Case 2 of R149: numbers committed since Nd that have left the ring are passed over. -/
def State.passGone (s : State) : State :=
  if s.disp.nd < s.ring.counter then
    s.modDisp (fun d => { d with passed := satAdd top32 d.passed (s.ring.counter - d.nd), nd := s.ring.counter })
  else s

/-- The number of the record that a REDRAW names (R150). -/
def State.redrawTarget (s : State) : Option Nat :=
  match s.disp.sel with
  | some n => some n
  | none => s.ring.newest.map (·.number)

/-- A REDRAW of the shown record; refused, it clears the planes and returns the selection to NEWEST (R150). -/
def State.tryRedraw (s : State) : State :=
  let refused := s.clearPlanes.modDisp (fun d => { d with sel := none })
  match s.redrawTarget with
  | none => refused
  | some n =>
    match s.tryRaster n .redraw with
    | (true, s1) => s1
    | (false, _) => refused

/-- R149 at a scheduling point of an IDLE rasteriser. -/
def State.dispSchedule (s : State) : State :=
  match s.scheduleLive with
  | (true, s1) => s1
  | (false, s1) =>
    let s2 := s1.passGone
    if s2.disp.redraw then
      let s3 := s2.modDisp (fun d => { d with redraw := false })
      if s3.stopped then s3.tryRedraw else s3
    else s2

/-- A scheduling point that counts only while the rasteriser is IDLE. -/
def State.dispPoint (s : State) : State := if s.disp.raster.isNone then s.dispSchedule else s

/-- A redraw request (R159). -/
def State.requestRedraw (s : State) : State := (s.modDisp (fun d => { d with redraw := true })).dispPoint

/-- The display takes a commit announcement when it is the oldest of the ring's announcements to it (R149, R160). -/
def State.dispTakeCommit (s : State) : State :=
  match s.boxes.dispRing with
  | .commit _ :: rest => (s.modBoxes (fun b => { b with dispRing := rest })).dispPoint
  | _ => s

/-! ### Composition (R161 to R163) -/

/-- R162: the graticule pixels under a GRATICULE setting (FULL 0, GRID 1, FRAME 2). -/
def graticuleAt (g : Int) (x y : Nat) : Bool :=
  let border := x = 0 ∨ x = 499 ∨ y = 0 ∨ y = 399
  let grid := x % 50 = 0 ∨ y % 50 = 0
  let ticks := (199 ≤ y ∧ y ≤ 201 ∧ x % 10 = 0) ∨ (249 ≤ x ∧ x ≤ 251 ∧ y % 10 = 0)
  if g = 2 then decide border else if g = 1 then decide (border ∨ grid) else decide (border ∨ grid ∨ ticks)

/-- Table 38. -/
def channelColour (c : Fin 4) : Nat × Nat × Nat :=
  match c.val with
  | 0 => (255, 176, 0)
  | 1 => (96, 192, 255)
  | 2 => (255, 96, 144)
  | _ => (160, 255, 64)

/-- R161: the brightness of a plane value under INTENSITY. -/
def brightness (v : Nat) (intensity : Int) : Nat := v * (20 + 4 * intensity.toNat) / 420

/-- A channel's colour scaled by its brightness (R161). -/
def scaledColour (c : Fin 4) (b : Nat) : Rgb :=
  let k := channelColour c
  rgb (k.1 * b / 255) (k.2.1 * b / 255) (k.2.2 * b / 255)

/-- R163: whether an area pixel lies on a cursor line. -/
def State.cursorAt (s : State) (x y : Nat) : Bool :=
  if s.fld idCursor = 1 then decide ((x : Int) = s.fld idTcurA ∨ (x : Int) = s.fld idTcurB)
  else if s.fld idCursor = 2 then decide ((y : Int) = s.fld idVcurA ∨ (y : Int) = s.fld idVcurB)
  else false

/-- Cases 2 to 5 of R161 for an area pixel over given planes. -/
def State.areaColour (s : State) (planes : Vector Memory 4) (x y : Nat) : Rgb :=
  let b (c : Fin 4) : Nat := brightness (planes[c].read (planeAddr x y)).toNat (s.fld idIntensity)
  if s.cursorAt x y then rgb 255 255 255
  else
    match (List.finRange 4).find? (fun c => decide (s.fld (idChOn c) = 1) && decide (0 < b c)) with
    | some c => scaledColour c (b c)
    | none => if graticuleAt (s.fld idGraticule) x y then rgb 72 72 72 else rgb 0 0 0

/-- The address of a panel pixel in an overlay buffer (800 columns by 480 rows). -/
def overlayAddr (x y : Nat) : Nat := 800 * y + x

/-- The palette index that scan-out reads at a panel pixel (R168). -/
def State.overlayIndex (s : State) (col row : Nat) : Byte :=
  (if s.ov.scanB then s.ov.bufB else s.ov.bufA).read (overlayAddr col row)

/-- R161: the colour sent for a panel pixel (column 0..799, row 0..479) when `landed` hits of the rasterisation in flight
have landed; the panel is dark in STANDBY (R146). -/
def State.panelPixel (s : State) (landed col row : Nat) : Rgb :=
  if !s.disp.scanning then rgb 0 0 0
  else
    let ix := s.overlayIndex col row
    if ix ≠ 0 then s.ov.palette[ix.toNat]'(ix.isLt)
    else if 10 ≤ col ∧ col < 510 ∧ 40 ≤ row ∧ row < 440 then
      s.areaColour (s.disp.landed landed) (col - 10) (row - 40)
    else rgb 0 0 0

end Sys2Proof.Machine
end

