-- ==== Sys2Proof/Machine/AcqOps.lean ====
section
/-! DEFINITION. The Acquisition Engine's operations (chapter 5): calibration of samples, the trigger comparator, the
decimator, the capture's course from grant to commit or discard, starts and stops, the announcements it takes. -/

namespace Sys2Proof.Machine

/-! ### Calibration (R68, R71, R72) -/

/-- The calibration entry of a channel at a VDIV index, entry 13 * c + k of the table (R68). -/
def FrontEnd.calAt (f : FrontEnd) (c : Fin 4) (vdiv : Int) : CalEntry :=
  if h : 13 * c.val + vdiv.toNat < 52 then f.cal[13 * c.val + vdiv.toNat] else uncalEntry

/-- R71 and R72: the calibrated code of a raw code and whether it is CLIPPED. -/
def calibrate (e : CalEntry) (r : Int) : Int × Bool :=
  let q := roundDiv ((r - e.o) * e.g) 16384
  (clampI q (-512) 511, decide (r = -512 ∨ r = 511 ∨ q < -512 ∨ 511 < q))

/-- The entry of the channel that a TSRC value names, at its present VDIV; unused for EXT. -/
def State.sourceCal (s : State) (src : Int) : CalEntry :=
  match chanOf src with
  | some c => s.fe.calAt c (s.fld (idVdiv c))
  | none => uncalEntry

/-! ### Acquisition states -/

/-- The state is set, with what other blocks do at once: at an entry from STOPPED to running the selection returns to
NEWEST and the redraw-pending flag is cleared (R158); at an entry to STOPPED the pending force is cleared (R88), the timers
stop, and the fail-stop-outstanding flag is cleared (R139). -/
def State.setAcqSt (s : State) (st : AcqSt) : State :=
  let s1 := s.modAcq (fun a => { a with st := st })
  if s.stopped then
    if st = .stopped then s1 else s1.modDisp (fun d => { d with sel := none, redraw := false })
  else if st = .stopped then
    ((s1.modAcq (fun a => { a with pendingForce := false, holdoffEnd := none, autoEnd := none })).modMeas
      (fun m => { m with failFlag := false })).showGate
  else s1

/-- ACQ_STATE is offered with the state reached (R103). -/
def State.offerAcq (s : State) (c : AcqCause) : State := s.offer (.acqState s.acq.st s.acq.mode c)

/-! ### The comparator (R82 to R84, R100) -/

/-- A second in nanoseconds, the trigger rate gate (R100). -/
def gateNs : Nat := 1000000000

/-- R82: a reload takes the live trigger fields, clears both flags and the last crossing and restarts the rate gate while
the comparator runs (R100). -/
def State.reload (s : State) : State :=
  s.modAcq (fun a =>
    { a with
      cmp := { a.cmp with loaded := trigOf s.setup.live, risePrimed := false, fallPrimed := false, last := none }
      deferred := false
      rateCount := 0
      gateEnd := if a.cmp.running then some (s.clock.now + gateNs) else none })

/-- A reload deferred in POST_FILL is made (R98). -/
def State.reloadIfDeferred (s : State) : State := if s.acq.deferred then s.reload else s

/-- R83: the hysteresis of a TNOISE setting. -/
def hysteresis (noise : Int) : Int := if noise = 1 then 12 else 3

/-- R83: the comparator at a calibrated code: its new flags and the crossings, true for rising. -/
def Comparator.atCode (k : Comparator) (c : Int) : Comparator × List Bool :=
  let h := hysteresis k.loaded.noise
  let rise := k.risePrimed && decide (k.loaded.level ≤ c)
  let fall := k.fallPrimed && decide (c ≤ k.loaded.level)
  ({ k with
     risePrimed := (k.risePrimed && !rise) || decide (c ≤ k.loaded.level - h)
     fallPrimed := (k.fallPrimed && !fall) || decide (k.loaded.level + h ≤ c) },
   (if rise then [true] else []) ++ (if fall then [false] else []))

/-- R83: the crossings of the EXT input between two samples. -/
def extCrossings (before now : Bool) : List Bool :=
  if before = now then [] else [now]

/-- Whether a direction (true rising, or a positive pulse) is selected by a TSLOPE value (R83, R84). -/
def slopeSelects (slope : Int) (rising : Bool) : Bool :=
  if slope = 0 then rising else if slope = 1 then !rising else true

/-- R84: the width of a pulse, a difference of time base values. -/
def pulseWidth (t0 t1 : Nat) : Nat := (t1 + 18446744073709551616 - t0) % 18446744073709551616

/-- R83 and R84: whether a crossing at time base value `t` is a qualifying event. -/
def Comparator.qualifies (k : Comparator) (rising : Bool) (t : Nat) : Bool :=
  if k.loaded.type = 0 then slopeSelects k.loaded.slope rising
  else
    match k.last with
    | none => false
    | some x =>
      if x.rising = rising then false
      else
        slopeSelects k.loaded.slope x.rising &&
          (if k.loaded.wcond = 0 then decide ((pulseWidth x.time t : Int) < k.loaded.width)
           else decide (k.loaded.width < (pulseWidth x.time t : Int)))

/-- R70 and R82: the entry with which the comparator corrects the samples of channel `c`: the one copied at the claim while
a capture is in flight, the table's at other times (log entry 24). -/
def State.comparatorCal (s : State) (c : Fin 4) : CalEntry :=
  match s.acq.cap with
  | some k => k.chans[c].cal
  | none => s.fe.calAt c (s.fld (idVdiv c))

/-! ### The capture (R79 to R81) -/

/-- An interval without samples. -/
def emptyAccum : Accum := ⟨0, 0, 0, 0, false⟩

/-- R79 and R70: the capture context of a granted slot, from the live setup as it stands. The calibration entries of all four
channels are copied, so that a change of TSRC during the capture finds the entry of the claim (log entry 24). -/
def State.newCapture (s : State) (slot : Nat) : Capture :=
  { slot := slot, gen := s.setup.gen
    chans := Vector.ofFn (fun c : Fin 4 =>
      ⟨decide (s.fld (idChOn c) = 1), s.fld (idVdiv c), s.fld (idCoupling c), s.fe.calAt c (s.fld (idVdiv c))⟩)
    tdiv := s.fld idTdiv, mode := s.fld idAcqmode, hpos := s.fld idHpos, geom := s.liveGeom
    trig := trigOf s.setup.live, trigCal := s.sourceCal (s.fld idTsrc), pre := [], post := [], ivN := 0
    iv := Vector.replicate 4 emptyAccum, trigTime := 0, trigCause := .triggered, gap := 0, hit := false }

/-- One more code of an interval. -/
def Accum.add (a : Accum) (n : Nat) (v : Int × Bool) : Accum :=
  if n = 0 then ⟨v.1, v.1, v.1, v.1, v.2⟩
  else ⟨a.first, min a.mn v.1, max a.mx v.1, a.sum + v.1, a.clipped || v.2⟩

/-- R80: the stored point of a complete interval of `d` samples (SAMPLE 0, PEAK 1, HIRES 2). -/
def Accum.point (a : Accum) (mode : Int) (d : Nat) : Point :=
  if mode = 1 then ⟨a.mn, a.mx, a.clipped⟩
  else if mode = 2 then ⟨roundDiv a.sum d, roundDiv a.sum d, a.clipped⟩
  else ⟨a.first, a.first, a.clipped⟩

/-- The samples of one nanosecond enter the interval in progress of each present channel; the lane of a channel whose
latched power is off is ignored (R59). -/
def Capture.addSample (c : Capture) (words : Vector FeWord 4) (raw : Vector RawCode 4) : Capture :=
  { c with
    ivN := c.ivN + 1
    iv := Vector.ofFn (fun i : Fin 4 =>
      if c.chans[i].on && words[i].power then c.iv[i].add c.ivN (calibrate c.chans[i].cal raw[i].toInt)
      else if c.ivN = 0 then emptyAccum else c.iv[i]) }

/-- The interval in progress is complete (R80). -/
def Capture.full (c : Capture) : Bool := decide (2 ^ c.geom.dExp ≤ c.ivN)

/-- The points of the complete interval, one for each channel. -/
def Capture.row (c : Capture) : PointRow := Vector.ofFn (fun i : Fin 4 => c.iv[i].point c.mode (2 ^ c.geom.dExp))

/-- R81, step 1: a point enters the pre-trigger store, which keeps the Npre most recent. -/
def Capture.storePre (c : Capture) : Capture :=
  { c with pre := lastN c.geom.npre (c.pre ++ [c.row]), ivN := 0 }

/-- R81, step 4: a point follows the trigger. -/
def Capture.storePost (c : Capture) : Capture := { c with post := c.post ++ [c.row], ivN := 0 }

/-- R89: the post-trigger points are all stored and the trigger sample has been taken. -/
def Capture.complete (c : Capture) : Bool := c.hit && decide (c.geom.leff - c.geom.npre ≤ c.post.length)

/-- The capture in flight is replaced. -/
def State.setCap (s : State) (c : Capture) : State := s.modAcq (fun a => { a with cap := some c })

/-! ### Triggers (R85 to R88) -/

/-- R86: a trigger is accepted: the alignment of R81, the timers, POST_FILL. With `hit` the trigger sample is the sample
being taken; without it, it is the next one, whose time replaces the one recorded here. -/
def State.acceptTrigger (s : State) (c : Capture) (cause : TrigCause) (hit : Bool) : State :=
  let c1 := if c.full then c.storePre else c
  (s.modAcq (fun a =>
    { a with
      cap := some { c1 with gap := c1.ivN, ivN := 0, trigTime := s.timeBase, trigCause := cause, hit := hit }
      lastTrig := some ⟨s.timeBase, s.clock.now, cause⟩
      pendingForce := if cause = .forced then false else a.pendingForce
      autoEnd := none })).setAcqSt .postFill

/-- R87: the auto wait in nanoseconds. -/
def autoWait (g : Geom) : Nat := min (100000000 + g.leff * 2 ^ g.dExp) 10000000000

/-- R87: the end of the auto timer as it starts now; absent under TMODE NORMAL. -/
def State.autoTimer (s : State) (c : Capture) : Option Nat :=
  if c.trig.mode = 0 then some (s.clock.now + autoWait c.geom) else none

/-- R85, R87, R88: the entry to ARMED, where a pending force is applied. -/
def State.enterArmed (s : State) (c : Capture) : State :=
  let s1 := (s.modAcq (fun a => { a with holdoffEnd := none, autoEnd := s.autoTimer c })).setAcqSt .armed
  if s.acq.pendingForce then s1.acceptTrigger c .forced false else s1

/-- R85: when the holdoff ends; absent when it has ended. -/
def State.holdoffFor (s : State) (c : Capture) : Option Nat :=
  match s.acq.lastTrig with
  | none => none
  | some l =>
    let e := l.moment + c.trig.holdoff.toNat
    if s.clock.now < e then some e else none

/-- R85: in PRE_FILL the holdoff timer is set, and the engine enters ARMED when both conditions hold. -/
def State.testArmed (s : State) : State :=
  match s.acq.st, s.acq.cap with
  | .preFill, some c =>
    let e := s.holdoffFor c
    if c.geom.npre ≤ c.pre.length ∧ e = none then s.enterArmed c
    else s.modAcq (fun a => { a with holdoffEnd := e })
  | _, _ => s

/-- The completion of the interval in progress, when it is complete (R80, R81), with the test of R85. -/
def State.flushInterval (s : State) : State :=
  match s.acq.cap with
  | none => s
  | some c =>
    if c.full then
      match s.acq.st with
      | .preFill => (s.setCap c.storePre).testArmed
      | .armed => s.setCap c.storePre
      | .postFill => s.setCap c.storePost
      | _ => s
    else s

/-- A qualifying event: it is counted (R100), and in ARMED it is accepted (R86). -/
def State.qualifying (s : State) : State :=
  let s1 := s.modAcq (fun a => { a with rateCount := satAdd top32 a.rateCount 1 })
  match s1.acq.st, s1.acq.cap with
  | .armed, some c => s1.acceptTrigger c .triggered true
  | _, _ => s1

/-- A crossing at the sample being taken: the qualifying test, then the new last crossing (R83, R84). -/
def State.crossing (s : State) (rising : Bool) : State :=
  let t := s.timeBase
  let s1 := if s.acq.cmp.qualifies rising t then s.qualifying else s
  s1.modAcq (fun a => { a with cmp := { a.cmp with last := some ⟨rising, t⟩ } })

/-- R82: the comparator at one sample. -/
def State.compare (s : State) (raw : Vector RawCode 4) (ext : Bool) : State :=
  if s.acq.cmp.running then
    match chanOf s.acq.cmp.loaded.src with
    | some c =>
      if s.fe.latched[c].power then
        let r := s.acq.cmp.atCode (calibrate (s.comparatorCal c) raw[c].toInt).1
        r.2.foldl State.crossing (s.modAcq (fun a => { a with cmp := r.1 }))
      else s
    | none => (extCrossings s.pins.ext ext).foldl State.crossing s
  else s

/-- The first sample after an AUTO or FORCED acceptance is the trigger sample, and its time is the trigger time (R86). -/
def State.hitSample (s : State) (c : Capture) : State :=
  if c.hit then s
  else s.modAcq (fun a =>
    { a with
      cap := some { c with hit := true, trigTime := s.timeBase }
      lastTrig := some ⟨s.timeBase, s.clock.now, c.trigCause⟩ })

/-- The decimator at one sample (R80, R81). -/
def State.decimate (s : State) (raw : Vector RawCode 4) : State :=
  match s.acq.st, s.acq.cap with
  | .preFill, some c => s.setCap (c.addSample s.fe.latched raw)
  | .armed, some c => s.setCap (c.addSample s.fe.latched raw)
  | .postFill, some c =>
    let s1 := s.hitSample c
    match s1.acq.cap with
    | some c1 => if c1.complete then s1 else s1.setCap (c1.addSample s.fe.latched raw)
    | none => s1
  | _, _ => s

/-! ### Grants, starts, discards (R78, R92 to R94) -/

/-- R78, step 3: a granted slot: the context is taken, the state becomes PRE_FILL, and R85 is tested. -/
def State.granted (s : State) (slot : Nat) : State := ((s.setCap (s.newCapture slot)).setAcqSt .preFill).testArmed

/-- R78 and R109: an offer of a slot reaches the engine. In WAIT_SLOT it is taken as a claim that is granted; in any other
state it is declined: the slot becomes EMPTY, and the geometry is checked as after a discard (log entry 40). -/
def State.takeSlot (s : State) (i : Nat) : State := if s.acq.st = .waitSlot then s.granted i else s.freeSlot i

/-- An offer that waits on its way, no withdrawal having come before it, reaches the engine (log entry 40). -/
def State.takeOffer (s : State) : State :=
  match s.boxes.offers with
  | [] => s
  | i :: rest => (s.modBoxes (fun b => { b with offers := rest })).takeSlot i

/-- R78: a capture is started. -/
def State.startCapture (s : State) : State :=
  if s.feReadyNow then
    match s.claim with
    | (.granted i, s1) => s1.granted i
    | (.none, s1) => s1.setAcqSt .waitSlot
    | (.pending, s1) => s1.setAcqSt .pausedGeometry
  else s.setAcqSt .settling

/-- Which discard count a discard adds to (R104). -/
inductive DiscardKind where
  | setup
  | stop
  | fail
  | fault
  deriving DecidableEq, Repr

/-- R104: one more discarded capture. -/
def Acq.countDiscard (a : Acq) : DiscardKind → Acq
  | .setup => { a with discSetup := satAdd top32 a.discSetup 1 }
  | .stop => { a with discStop := satAdd top32 a.discStop 1 }
  | .fail => { a with discFail := satAdd top32 a.discFail 1 }
  | .fault => { a with discFault := satAdd top32 a.discFault 1 }

/-- The capture in flight is discarded, a claim that waits is withdrawn, the timers stop; a deferred reload is made (R98)
and the slot is freed (R111). The caller sets the state. -/
def State.endWork (s : State) (k : DiscardKind) : State :=
  let s1 := s.modAcq (fun a => { a with holdoffEnd := none, autoEnd := none })
  match s1.acq.cap with
  | some c =>
    ((s1.modAcq (fun a => { a.countDiscard k with cap := none })).reloadIfDeferred).freeSlot c.slot
  | none => s1.withdrawClaim

/-- A running acquisition is stopped (R91, R93, R99, R101); the notice carries the cause. -/
def State.stopAcq (s : State) (k : DiscardKind) (cause : AcqCause) : State :=
  if s.stopped then s else ((s.endWork k).setAcqSt .stopped).offerAcq cause

/-- A capture in flight or a claim ends, and a capture is started again (R95 to R97). -/
def State.restart (s : State) : State := (s.endWork .setup).startCapture

/-- A segmented start's request to the ring, when SEGMENTED is on (R94). -/
def State.segmentedStart (s : State) : State := if s.fld idSegmented = 1 then s.segmentedDiscard else s

/-- R92: RUN or SINGLE that is not refused. -/
def State.runAs (s : State) (m : RunMode) (cause : AcqCause) : State :=
  let s1 := s.modAcq (fun a => { a with mode := m })
  if s.stopped then (s1.segmentedStart.startCapture).offerAcq cause else s1

/-- R92: RUN or SINGLE is refused outside ON and while the front-end fault flag is set. -/
def State.runRefused (s : State) : Bool := decide (s.power.st ≠ .on) || s.acq.fault

/-- R88: a force; false when it is answered NOT_NOW. -/
def State.force (s : State) : Bool × State :=
  match s.acq.st, s.acq.cap with
  | .armed, some c => (true, s.acceptTrigger c .forced false)
  | .preFill, _ => (true, s.modAcq (fun a => { a with pendingForce := true }))
  | .settling, _ => (true, s.modAcq (fun a => { a with pendingForce := true }))
  | _, _ => (false, s)

/-! ### Completion and commit (R89, R90) -/

/-- The record of a complete capture: its header parts (R224), the context that stays with it, its points. The number is
assigned at the commit. -/
def Capture.toRecord (c : Capture) : Record :=
  let pts := c.pre ++ c.post
  { number := 0, slot := c.slot, gen := c.gen, trigTime := c.trigTime, cause := c.trigCause, mode := c.mode
    geom := c.geom, hpos := c.hpos, tdiv := c.tdiv, gap := c.gap
    chans := Vector.ofFn (fun i : Fin 4 =>
      ⟨c.chans[i].on, c.chans[i].on && pts.any (fun p => p[i].clipped), c.chans[i].on && !c.chans[i].cal.cal,
        c.chans[i].vdiv, c.chans[i].coupling⟩)
    trig := c.trig, trigCal := c.trigCal, cals := Vector.ofFn (fun i : Fin 4 => if c.chans[i].on then c.chans[i].cal else uncalEntry), points := pts }

/-- R90: how acquisition continues after a commit. -/
def State.continueAcq (s : State) : State :=
  if s.acq.mode = .single then (s.setAcqSt .stopped).offerAcq .singleDone
  else if s.fld idSegmented = 1 ∧ s.ring.order.length = s.ring.cap then
    (s.setAcqSt .stopped).offerAcq .segmentsFull
  else s.startCapture

/-- The announcements of a commit that are taken before the next capture's claim is made. -/
def State.takeEarly (s : State) (measFirst dispFirst : Bool) : State :=
  let s1 := if measFirst then s.measTakeCommit else s
  if dispFirst then s1.dispTakeCommit else s1

/-- R89 and R90: the commit of the complete capture and what follows it. -/
def State.commitCapture (s : State) (c : Capture) (measFirst dispFirst : Bool) : State :=
  (((s.modAcq (fun a => { a with cap := none })).commitRecord c.toRecord).takeEarly measFirst dispFirst).continueAcq

/-- An announcement counts as an FE-class change for the engine; so does a replacement that informs every block. -/
def SetupAnn.isFe (a : SetupAnn) : Bool := a.whole || a.touches .fe

/-- See `SetupAnn.isFe`. -/
def SetupAnn.isAcq (a : SetupAnn) : Bool := a.whole || a.touches .acq

/-- See `SetupAnn.isFe`. -/
def SetupAnn.isGeom (a : SetupAnn) : Bool := a.whole || a.touches .geom

/-- An announcement holds a TRIG-class change. -/
def SetupAnn.isTrig (a : SetupAnn) : Bool := a.touches .trig

/-- R96 and R102: no change that ends the capture in flight is on its way to the engine, and no full reprogram is on its way
to the front end, so that a commit keeps the law that no committed record's capture overlaps a settling or a change of an FE
or ACQ field, and that the first capture after a RESET is granted after the full reprogram has settled (log entry 10). -/
def State.mayCommit (s : State) : Bool :=
  !s.boxes.acq.any (fun a => a.isFe || a.isAcq) && !s.boxes.settle.any id && !s.boxes.fe.any (·.whole)

/-! ### Setup announcements taken by the engine (R94 to R98) -/

/-- An announcement turns SEGMENTED from off to on (R94). -/
def SetupAnn.segmentedOn (a : SetupAnn) : Bool := a.changes.any (fun c => c.id == idSegmented && decide (c.new = 1))

/-- R98 and R70: the trigger part of the context as the live setup has it now; the source's calibration entry is the one
copied at the claim. -/
def State.adoptTrig (s : State) (c : Capture) : Capture :=
  { c with
    trig := trigOf s.setup.live
    trigCal := match chanOf (s.fld idTsrc) with
      | some i => c.chans[i].cal
      | none => uncalEntry }

/-- R98: the effect of a TRIG-class change. -/
def State.trigChange (s : State) : State :=
  match s.acq.st, s.acq.cap with
  | .postFill, _ => s.modAcq (fun a => { a with deferred := true })
  | .preFill, some c => (s.reload.setCap (s.adoptTrig c)).testArmed
  | .armed, some c =>
    (s.reload.setCap (s.adoptTrig c)).modAcq (fun a => { a with autoEnd := s.autoTimer (s.adoptTrig c) })
  | _, _ => s.reload

/-- R94 to R97: the effect of the FE, ACQ and GEOM classes of one announcement. SEGMENTED turned on is a segmented start while
acquisition is running (R94), though R96 gives an ACQ change no effect in SETTLING, WAIT_SLOT and PAUSED_GEOMETRY: the
records are discarded in all three, a claim that waits is put again, and SETTLING starts none (log entry 41). -/
def State.classChange (s : State) (a : SetupAnn) : State :=
  match s.acq.st with
  | .stopped => s
  | .settling =>
    let s1 := if a.segmentedOn then s.segmentedDiscard else s
    if a.isGeom then s1.startCapture else s1
  | .waitSlot | .pausedGeometry =>
    if a.isFe || a.isGeom || a.segmentedOn then
      let s1 := s.endWork .setup
      (if a.segmentedOn then s1.segmentedDiscard else s1).startCapture
    else s
  | _ =>
    let s1 := s.endWork .setup
    (if a.segmentedOn then s1.segmentedDiscard else s1).startCapture

/-- The engine takes one announcement: its TRIG part, then its FE, ACQ and GEOM part. -/
def State.acqApply (s : State) (a : SetupAnn) : State :=
  let s1 := if a.isTrig then s.trigChange else s
  if a.isFe || a.isAcq || a.isGeom then s1.classChange a else s1

/-- The engine takes the oldest announcement of a class that waits for it; nothing when none waits. -/
def State.acqTake (s : State) (p : SetupAnn → Bool) : State :=
  match s.boxes.acq.find? p with
  | none => s
  | some a => (s.modBoxes (fun b => { b with acq := b.acq.eraseP p })).acqApply a

/-- R95 and R78: the engine takes "settling began". -/
def State.settlingBegan (s : State) : State :=
  match s.acq.st with
  | .stopped => s
  | .settling => s
  | .waitSlot => (s.endWork .setup).setAcqSt .settling
  | .pausedGeometry => (s.endWork .setup).setAcqSt .settling
  | _ => s.restart

/-- R99: the engine takes the fault announcement. -/
def State.faultTaken (s : State) : State :=
  let s1 := s.modAcq (fun a => { a with fault := true })
  if s1.stopped then s1.offerAcq .feFault else s1.stopAcq .fault .feFault

/-! ### Power and RESET (R101, R102) -/

/-- The discard counts return to 0. -/
def Acq.zeroCounts (a : Acq) : Acq := { a with discSetup := 0, discStop := 0, discFail := 0, discFault := 0 }

/-- R101: the engine at the entry to ON from POWERING_UP, before the power start. -/
def State.acqOnEntry (s : State) : State :=
  (s.zeroTimeBase.modAcq (fun a =>
    { a.zeroCounts with lastTrig := none, cmp := { a.cmp with running := true } })).reload

/-- R101: the engine at standby entry. -/
def State.acqStandby (s : State) : State :=
  (s.stopAcq .stop .power).modAcq (fun a =>
    { a with
      mode := .run, pendingForce := false, holdoffEnd := none, autoEnd := none, lastTrig := none, fault := false
      cmp := comparatorStopped a.cmp.loaded, deferred := false, gateEnd := none, rateCount := 0, rateHeld := none })

/-- R102: the engine at a RESET request. -/
def State.acqReset (s : State) : State :=
  let s1 := if s.stopped then s else (s.endWork .stop).setAcqSt .stopped
  let s2 := s1.zeroTimeBase.modAcq (fun a =>
    { a.zeroCounts with lastTrig := none, pendingForce := false, mode := .run, rateHeld := none })
  let s3 := if s2.power.st = .on ∨ s2.power.st = .shuttingDown then s2.reload else s2
  let s4 := if s3.power.st = .on ∧ s3.acq.fault = false then s3.segmentedStart.startCapture else s3
  s4.offerAcq .reset

end Sys2Proof.Machine
end

