-- ==== Sys2Proof/Machine/ServeOps.lean ====
section
/-! DEFINITION. What the Record Ring does for a waiting claim (R109), the end of a pin, a release, a CLEAR; and the
Waveform Display's abandonments and the announcements it takes (R151, R152, R157, R159, R160). -/

namespace Sys2Proof.Machine

/-! ### The ring serves -/

/-- R109: the offer of a granted slot is on its way to the Acquisition Engine. -/
def State.offerSlot (s : State) (i : Nat) : State := s.modBoxes (fun b => { b with offers := b.offers ++ [i] })

/-- R109: a claim that waits for a slot is served again by steps 1 to 4 of R108, and a granted slot is offered to the engine,
which takes it in this same step. With `offerWaits` the offer stays on its way: the event and a withdrawal of the claim fall
together, and the event is taken first (log entry 40). -/
def State.serveWaiting (s : State) (offerWaits : Bool) : State :=
  if s.ring.waitSlot then
    match s.claimSteps with
    | (some i, s1) => if offerWaits then s1.offerSlot i else s1.takeSlot i
    | (none, s1) => s1
  else s

/-- R113: the display ends its pin; a waiting claim is served, the geometry-pending flag set or clear (log entry 11). A pin
that the ring has cancelled is ended already. -/
def State.endPin (s : State) (n : Nat) : State :=
  if s.ring.pin = some n then (s.modRing (fun r => { r with pin := none })).serveWaiting false else s

/-- R117: what the ring does after a lock entry has become FREE, `n` being the record it named. A claim that waits for a slot
is not served here while the geometry-pending flag is set. `offerWaits` is as for `State.serveWaiting`. -/
def State.afterRelease (s : State) (n : Nat) (offerWaits : Bool) : State :=
  let s1 := if s.ring.discardable n && !s.ring.geomPending then s.serveWaiting offerWaits else s
  if s1.ring.anyLock then s1 else s1.geomCheck

/-- R119: CLEAR. -/
def State.clearRing (s : State) : State :=
  let s1 := s.discardAll (s.ring.order.filter (fun x => s.ring.discardable x.number))
  let ends := s1.ring.exhausted && s1.ring.order.isEmpty
  let s2 := if ends then s1.modRing (fun r => { r with counter := 0 }) else s1
  let s3 := (s2.announceRing (.clear s2.ring.counter ends)).showGate
  if ends then s3.serveWaiting false else s3

/-! ### Rasterisation ends (R151, R152) -/

/-- The rasteriser becomes IDLE with the given planes; its pin ends and the pending decays are applied (R151, R152). -/
def State.rasterEnds (s : State) (planes : Vector Memory 4) (record : Nat) : State :=
  ((s.modDisp (fun d => { d with planes := planes, raster := none })).endPin record).applyDecays

/-- R151: the completion of the rasterisation in flight. -/
def State.rasterDone (s : State) (r : Raster) : State :=
  (s.rasterEnds (s.disp.landed r.hits.length) r.record).dispSchedule

/-- R152: a rasterisation in flight is abandoned: the hits that have landed stay, a free number of them (log entry 4). -/
def State.abandon (s : State) : State :=
  match s.disp.raster with
  | none => s
  | some r => (s.modFree (· + 1)).rasterEnds (s.disp.landed (Config.hitsLanded s.freeCtr)) r.record

/-- An abandonment, what its event then does to the display, and the scheduling point that follows an abandonment. -/
def State.abandonThen (s : State) (f : State → State) : State :=
  let busy := s.disp.raster.isSome
  let s1 := f s.abandon
  if busy then s1.dispSchedule else s1

/-! ### Setup announcements to the display (R159) -/

/-- The ids of VDIV, POS, TDIV and HPOS. -/
def clearingIds : List Nat := [11, 12, 21, 22, 31, 32, 41, 42, 50, 51]

/-- An announcement changes a field of the first row of R159. -/
def SetupAnn.clears (a : SetupAnn) : Bool := a.whole || a.changesAny clearingIds

/-- R159: the display takes an announcement of the Setup Controller. A clearing change taken while acquisition runs abandons
whatever rasterisation is in flight, a REDRAW that was started while STOPPED included, as the tables of R152 and R159 have it,
though the end of R152 says that the setting changes taken during a REDRAW do not abandon it: DESIGN CHOICE (log entry 47). -/
def State.dispApply (s : State) (a : SetupAnn) : State :=
  if s.stopped then s.requestRedraw
  else if a.clears then s.abandonThen (·.clearPlanes)
  else s

/-! ### Ring announcements to the display (R160) -/

/-- R160: the display takes an announcement of the ring. An abandonment is followed by a scheduling point (R149, R152), also
after a clear, where R160 says that nothing is drawn until the next commit (log entry 43). R160 names no record at "pin
cancelled": that an announcement taken late, with the rasterisation of another record already in flight, abandons nothing, is
DESIGN CHOICE (log entry 48). -/
def State.dispRingApply (s : State) (a : RingAnn) : State :=
  match a with
  | .commit _ => s.dispPoint
  | .discard n => s.modDisp (fun d => { d with sel := if d.sel = some n then none else d.sel })
  | .pinCancelled n =>
    match s.disp.raster with
    | some r => if r.record = n then s.abandonThen id else s
    | none => s
  | .clear c _ =>
    s.abandonThen (fun t =>
      t.clearPlanes.modDisp (fun d => { d with redraw := false, nd := min d.nd c }))
  | .emptied =>
    s.abandonThen (fun t => t.clearPlanes.modDisp (fun d => { d with sel := none, redraw := false }))

/-- R167: the display at a RESET request and at standby entry, with no scheduling point; the planes are cleared after the
hits that landed, so what landed is of no account. `scan` is whether scan-out runs on. -/
def State.dispReset (s : State) (scan : Bool) : State :=
  let s1 := match s.disp.raster with
    | some r => (s.modDisp (fun d => { d with raster := none })).endPin r.record
    | none => s
  s1.modDisp (fun d =>
    { d with planes := Vector.replicate 4 [], nd := 0, passed := 0, redraw := false, decays := 0, sel := none
             scanning := scan })

end Sys2Proof.Machine
end

