-- ==== Sys2Proof/Machine/FeOps.lean ====
section
/-! DEFINITION. The Front-End Controller's operations (chapter 4): transfers and latches (R60, R61), the settle timer (R62),
the condition (R64 to R67). -/

namespace Sys2Proof.Machine

/-- The duration of a shift (R60): 4 µs. -/
def shiftNs : Nat := 4000

/-- R60: the port becomes SHIFTING with the required words as they stand. -/
def State.startTransfer (s : State) (full : Bool) : State :=
  (s.modFe (fun f =>
    { f with port := some ⟨s.requiredWords, full, false, s.clock.now + shiftNs⟩, fullOwed := false })).showReadiness

/-- R60: the comparison made when a setup announcement is taken, or a full reprogram that 4.3 calls for; while the port is
SHIFTING a full reprogram is owed until the latch. -/
def State.programFe (s : State) (full : Bool) : State :=
  if s.fe.cond = .up then
    match s.fe.port with
    | none => if full || decide (s.fe.latched ≠ s.requiredWords) then s.startTransfer full else s
    | some _ => if full then s.modFe (fun f => { f with fullOwed := true }) else s
  else s

/-- A relay field differs between two words (R58, R61). -/
def FeWord.relayDiffers (a b : FeWord) : Bool := a.div100 != b.div100 || a.coupling != b.coupling

/-- Table 22: the settle time at a latch, in nanoseconds; 0 for none. -/
def settleTime (full : Bool) (new old : Vector FeWord 4) : Nat :=
  if full || (List.finRange 4).any (fun c => new[c].relayDiffers old[c]) then 6 * ms
  else if new ≠ old then 200000
  else 0

/-- R62: the end of the settle timer after a latch at `now` with settle time `t`. -/
def settleAfter (now t : Nat) (e : Option Nat) : Option Nat :=
  if t = 0 then e
  else
    match e with
    | none => some (now + t)
    | some x => some (max x (now + t))

/-- The latch of a transfer (R60 to R62), or of the final transfer of standby entry, at which the condition becomes OFF
(R67). -/
def State.latch (s : State) (t : Transfer) : State :=
  if t.final then
    (s.modFe (fun f => { f with latched := t.words, port := none, fullOwed := false, cond := .off })).showReadiness
  else
    let s1 := s.modFe (fun f =>
      { f with
        latched := t.words, port := none
        settleEnd := settleAfter s.clock.now (settleTime t.full t.words f.latched) f.settleEnd })
    (s1.programFe s1.fe.fullOwed).showReadiness

/-- The condition becomes UP with a full reprogram (Table 23). -/
def State.feUp (s : State) : State := (s.modFe (fun f => { f with cond := .up, waitEnd := none })).programFe true

/-- A fault announcement or a "fault cleared" announcement is handed to the Acquisition Engine (R65, R66). -/
def State.announceFault (s : State) (fault : Bool) : State :=
  s.modBoxes (fun b => { b with fault := b.fault ++ [fault] })

/-- R64: the front end is enabled; true when it is ready at once. A final transfer of the standby entry before that is still
shifting is latched first (log entry 12). -/
def State.enableFe (s : State) : Bool × State :=
  let s1 := match s.fe.port with
    | some t => if t.final then s.latch t else s
    | none => s
  if s1.pins.feReady then (true, s1.feUp)
  else (false, s1.modFe (fun f => { f with cond := .waitReady, waitEnd := some (s.clock.now + 500 * ms) }))

/-- R65: FE_READY falls in the condition UP. -/
def State.feFall (s : State) : State :=
  ((s.modFe (fun f =>
    { f with cond := .fault, port := none, fullOwed := false, settleEnd := none })).showReadiness).announceFault true

/-- R67: the Front-End Controller at standby entry. -/
def State.feStandby (s : State) : State :=
  (s.modFe (fun f =>
    { f with
      cond := if f.cond = .up then .up else .off
      port := if f.cond = .up then some ⟨unpoweredWords s.setup.live, false, true, s.clock.now + shiftNs⟩ else none
      fullOwed := false, settleEnd := none, waitEnd := none })).showReadiness

/-- R69: an entry of the calibration table from the store. -/
def calEntryOf : CalRam → CalEntry
  | .written g o => ⟨g, o, true⟩
  | _ => uncalEntry

end Sys2Proof.Machine
end

