-- ==== Sys2Proof/Machine/PanelOps.lean ====
section
/-! DEFINITION. The Panel Scanner's operations (chapter 3): debouncing and ghost suppression, the key event queue, the key
actions, encoders and windows, tones. -/

namespace Sys2Proof.Machine

/-! ### Scanning (R29 to R32) -/

/-- The position at a row and a column of the matrix (R29). -/
def keyAt (r c : Fin 8) : Fin 64 := ⟨8 * r.val + c.val, by omega⟩

/-- The row and the column of a position (R29). -/
def rowCol (p : Fin 64) : Fin 8 × Fin 8 := (⟨p.val / 8, by omega⟩, ⟨p.val % 8, by omega⟩)

/-- R31: whether a press at `p` would complete a rectangle of three keys that are DOWN. -/
def ghostAt (k : Vector KeyState 64) (p : Fin 64) : Bool :=
  let r := (rowCol p).1
  let c := (rowCol p).2
  (List.finRange 8).any (fun r' => (List.finRange 8).any (fun c' =>
    decide (r' ≠ r ∧ c' ≠ c) && k[keyAt r c'].down && k[keyAt r' c].down && k[keyAt r' c'].down))

/-- A recognised press: DOWN, with the repeat timer of positions 17..34 (R32). -/
def pressedKey (p : Fin 64) (now : Nat) : KeyState :=
  ⟨true, 0, false, if 17 ≤ p.val ∧ p.val ≤ 34 then some (now + 400 * ms) else none⟩

/-- R30 and R31: one position at one scan: its new hold and the event produced (true for PRESS). -/
def scanKey (prev : Vector KeyState 64) (raw : Bool) (now : Nat) (p : Fin 64) : KeyState × Option Bool :=
  let k := prev[p]
  if k.pendingGhost then
    if !raw then ({ k with count := 0, pendingGhost := false }, none)
    else if ghostAt prev p then (k, none)
    else (pressedKey p now, some true)
  else if raw = k.down then ({ k with count := 0 }, none)
  else if k.count + 1 < 5 then ({ k with count := k.count + 1 }, none)
  else if k.down then (keyUp, some false)
  else if ghostAt prev p then ({ k with count := 5, pendingGhost := true }, none)
  else (pressedKey p now, some true)

/-- Whether a position is scanned: position 0 alone in STANDBY (R29). -/
def State.scans (s : State) (p : Fin 64) : Bool := decide (s.power.st ≠ .standby) || decide (p = 0)

/-- R29 to R31 and R39: a scan with raw values; the recognised changes wait in position order for KEY_PRESS and KEY_RELEASE,
a press with the action that the key action table gives its position now. -/
def State.scan (s : State) (raw : BitVec 64) : State :=
  let r (p : Fin 64) : KeyState × Option Bool :=
    if s.scans p then scanKey s.panel.keys (raw.getLsbD p.val) s.clock.now p else (s.panel.keys[p], none)
  s.modPanel (fun k =>
    { k with
      keys := Vector.ofFn (fun p => (r p).1)
      due := k.due ++ (List.finRange 64).filterMap (fun p => (r p).2.map (fun b =>
        ⟨p, b, s.msTime, if b then k.actions[p].action else .none⟩)) })

/-! ### The key event queue (R33 to R35) -/

/-- R35: an event arrives at the key event queue. -/
def keyArrives (q : List KeyEvent) (p : Fin 64) (k : KeyEvKind) (t : Nat) : List KeyEvent :=
  if q.length < 16 then q ++ [⟨p, k, t, false⟩] else q.dropLast ++ [⟨p, k, t, true⟩]

/-- R33, step 1: the event is queued when the position's report flag is on. -/
def State.queueKey (s : State) (p : Fin 64) (k : KeyEvKind) (t : Nat) : State :=
  if s.panel.actions[p].report then s.modPanel (fun x => { x with queue := keyArrives x.queue p k t }) else s

/-- R33, step 3 and R53: the KEY click. -/
def State.keyClick (s : State) : State := if s.fld idKeyclick = 1 then (s.tone 1 4000 3).2 else s

/-! ### Key actions (R39 to R42) -/

/-- R42: the value that LEVEL_TO_MID proposes. -/
def State.midLevel (s : State) : Int :=
  match chanOf (s.fld idTsrc), s.ring.newest with
  | some c, some x =>
    if x.chans[c].on then
      let vals := valuesOf x.mode (windowOf x.geom x.points) c
      (maxOf vals + minOf vals) / 2
    else 0
  | _, _ => 0

/-- R40 to R42: the work of a key action, handed to its owner with cause or source KEY. -/
def State.fireAction (s : State) (a : KeyAction) : State :=
  match a with
  | .none => s
  | .runStop =>
    if s.stopped then (if s.runRefused then s else s.runAs .run .key) else s.stopAcq .stop .key
  | .single => if s.runRefused then s else s.runAs .single .key
  | .forceTrigger => s.force.2
  | .defaultSetup => s.applyDefaults
  | .undo => s.applyUndo
  | .channelToggle c => s.keyChange (idChOn c) (1 - s.fld (idChOn c))
  | .levelToMid => s.keyChange idTlevel s.midLevel
  | .positionZero c => s.keyChange (idPos c) 0

/-- R33: the PRESS of a position other than 0: the queue, in ON the action `a` that was read at its recognition (R39), the
click. That the report flag and the power state are those of the moment at which the press is treated is DESIGN CHOICE (log
entry 35). -/
def State.keyPressed (s : State) (p : Fin 64) (t : Nat) (a : KeyAction) : State :=
  let s1 := s.queueKey p .press t
  let s2 := if s.power.st = .on then s1.fireAction a else s1
  s2.keyClick

/-! ### Encoders (R44, R45, R47, R48) -/

/-- The place of a pair (A, B) in the sequence 00, 01, 11, 10 (R44). -/
def grayIx (a b : Bool) : Nat := if a then (if b then 2 else 3) else (if b then 1 else 0)

/-- R45: a detent of one encoder. -/
def Encoder.detent (e : Encoder) (now : Nat) (d : Int) : Encoder :=
  { e with
    sub := 0
    window := match e.window with
      | none => some ⟨now + 20 * ms, d⟩
      | some w => some { w with count := w.count + d } }

/-- R44: a change of the sampled pair to (a, b). -/
def Encoder.turn (e : Encoder) (now : Nat) (a b : Bool) : Encoder :=
  let step := (grayIx a b + 4 - grayIx e.refA e.refB) % 4
  let e1 := { e with refA := a, refB := b }
  match step with
  | 0 => e
  | 1 => if e.sub + 1 = 4 then e1.detent now 1 else { e1 with sub := e.sub + 1 }
  | 3 => if e.sub - 1 = -4 then e1.detent now (-1) else { e1 with sub := e.sub - 1 }
  | _ => { e1 with illegal := satAdd top16 e.illegal 1 }

/-- Table 18: the multiplier of a window's count. -/
def knobMultiplier (k : FieldKind) (accel : Bool) (n : Int) : Int :=
  if k = .number ∧ accel = true then
    if n.natAbs ≤ 2 then 1 else if n.natAbs ≤ 5 then 4 else 16
  else 1

/-- R47: the END click. -/
def State.endClick (s : State) : State := (s.tone 1 1000 10).2

/-- R47: a KNOB change of a bound field; against the end that the field holds it is an END click. -/
def State.knobChange (s : State) (e : Fin 12) (i : Fin 87) (b : Binding) (n : Int) : State :=
  let f := fieldInfo i
  let v := clampI (s.setup.live[i] + n * knobMultiplier f.kind b.accel n * b.step) f.lo f.hi
  if v = s.setup.live[i] then s.endClick else s.applyField i v .knob (some e)

/-- R45, R47 and R48: a window of count `n` ends. -/
def State.windowApplied (s : State) (e : Fin 12) (n : Int) : State :=
  if s.power.st = .on ∧ n ≠ 0 then
    match s.panel.bindings[e].field with
    | some i => s.knobChange e i s.panel.bindings[e] n
    | none => s.offer (.knob e n s.msTime)
  else s

/-! ### Power states and resets (R29, R44, R50, R57) -/

/-- LED 0 starts its blink, green, at an entry to POWERING_UP or SHUTTING_DOWN (R50). -/
def State.startBlink (s : State) : State :=
  s.modPanel (fun p => { p with blinkGreen := true, blinkEnd := some (s.clock.now + 250 * ms) })

/-- LED 0 blinks no longer. -/
def State.endBlink (s : State) : State := s.modPanel (fun p => { p with blinkGreen := false, blinkEnd := none })

/-- R44: at a supply reset and at the entry to POWERING_UP the sub-detent counts are 0 and the references are the pairs as
sampled. -/
def Panel.sampleEncoders (p : Panel) (pins : Pins) : Panel :=
  { p with encs := Vector.ofFn (fun e : Fin 12 =>
      { p.encs[e] with refA := pins.encA[e], refB := pins.encB[e], sub := 0 }) }

/-- What a RESET request and a standby entry have in common for the panel (R57). That a RESET keeps the recognised changes
that wait, each press with the action read at its scan, is DESIGN CHOICE (log entry 35). -/
def Panel.defaults (p : Panel) : Panel :=
  { p with
    queue := [], actions := defaultActions, bindings := defaultBindings
    encs := Vector.ofFn (fun e : Fin 12 => { p.encs[e] with illegal := 0, window := none })
    overrides := Vector.replicate 12 .auto, hostLeds := Vector.replicate 12 false, tone := none }

/-- R57: the panel at standby entry: every position but 0 is UP, and no event is produced for it. -/
def Panel.standby (p : Panel) : Panel :=
  { p.defaults with
    keys := Vector.ofFn (fun i : Fin 64 => if i = 0 then p.keys[i] else keyUp)
    due := p.due.filter (fun d => d.pos == 0), blinkGreen := false, blinkEnd := none }

end Sys2Proof.Machine
end

