-- ==== Sys2Proof/Machine/DrawOps.lean ====
section
/-! DEFINITION. The Overlay Drawer's operations (chapter 9): the pixels of each draw record (R174 to R177), the course of the
queue (R171, R173), PRESENT (R178). -/

namespace Sys2Proof.Machine

/-! ### Pixels of draw records -/

/-- The write of a colour at a panel pixel; none for a pixel off the panel. -/
def panelWrite (x y : Int) (v : Byte) : List (Nat × Byte) :=
  if 0 ≤ x ∧ x < 800 ∧ 0 ≤ y ∧ y < 480 then [(overlayAddr x.toNat y.toNat, v)] else []

/-- The integers from `lo` to `hi`, both included. -/
def span (lo hi : Int) : List Int := (List.range (hi + 1 - lo).toNat).map (fun k => lo + (k : Int))

/-- R174: the writes of a FILL, the rectangle cut to the panel; none for a reversed rectangle. -/
def fillWrites (x0 y0 x1 y1 : Int) (v : Byte) : List (Nat × Byte) :=
  if x1 < x0 ∨ y1 < y0 then []
  else
    (span (max y0 0) (min y1 479)).flatMap (fun y =>
      (span (max x0 0) (min x1 799)).flatMap (fun x => panelWrite x y v))

/-- R175: the pixels of a LINE. -/
def linePixels (x0 y0 x1 y1 : Int) : List (Int × Int) :=
  let dx := x1 - x0
  let dy := y1 - y0
  let n := max dx.natAbs dy.natAbs
  if n = 0 then [(x0, y0)]
  else (List.range (n + 1)).map (fun k => (x0 + roundDiv (k * dx) n, y0 + roundDiv (k * dy) n))

/-- R175: the writes of a LINE. -/
def lineWrites (x0 y0 x1 y1 : Int) (v : Byte) : List (Nat × Byte) :=
  (linePixels x0 y0 x1 y1).flatMap (fun p => panelWrite p.1 p.2 v)

/-- R176 and Table 40: whether pixel `i` of the cell of a code is foreground. -/
def glyph (code : Byte) (i : Nat) : Bool :=
  let c := code.toNat
  if c = 32 then false
  else if (33 ≤ c ∧ c ≤ 126) ∨ (128 ≤ c ∧ c ≤ 159) then Config.glyphPixel code i
  else true

/-- A foreground pixel takes fg; a background pixel takes bg when it is not 0 (R176, R177). -/
def inkWrite (x y : Int) (on : Bool) (fg bg : Byte) : List (Nat × Byte) :=
  if on then panelWrite x y fg else if bg = 0 then [] else panelWrite x y bg

/-- R176: the writes of a TEXT, cell by cell. -/
def textWrites (y : Int) (fg bg : Byte) : Int → List Byte → List (Nat × Byte)
  | _, [] => []
  | x, c :: cs =>
    (List.range 128).flatMap (fun i => inkWrite (x + (i % 8 : Nat)) (y + (i / 8 : Nat)) (glyph c i) fg bg) ++
      textWrites y fg bg (x + 8) cs

/-- R177: the bytes of a bitmap row. -/
def rowBytes (w : Nat) : Nat := (w + 7) / 8

/-- R177: a bitmap whose data is too short is dropped. -/
def bitmapShort (w h : Nat) (data : List Byte) : Bool := decide (data.length < h * rowBytes w)

/-- The bit of a bitmap at column `i` and row `r`: the most significant bit of a byte is the leftmost (R223). -/
def bitmapBit (w : Nat) (data : List Byte) (i r : Nat) : Bool :=
  ((data.drop (r * rowBytes w + i / 8)).headD 0).getLsbD (7 - i % 8)

/-- R177: the writes of a BITMAP; none when it is dropped or has no pixel. -/
def bitmapWrites (x y : Int) (w h : Nat) (fg bg : Byte) (data : List Byte) : List (Nat × Byte) :=
  if bitmapShort w h data || w == 0 then []
  else
    (List.range h).flatMap (fun (r : Nat) => (List.range w).flatMap (fun (i : Nat) =>
      inkWrite (x + (i : Int)) (y + (r : Int)) (bitmapBit w data i r) fg bg))

/-- The writes of a draw record into the back buffer. -/
def DrawRec.writes : DrawRec → List (Nat × Byte)
  | .fill x0 y0 x1 y1 v => fillWrites x0 y0 x1 y1 v
  | .line x0 y0 x1 y1 v => lineWrites x0 y0 x1 y1 v
  | .text x y fg bg codes => textWrites y fg bg x codes
  | .bitmap x y w h fg bg data => bitmapWrites x y w h fg bg data
  | .present => []

/-- Whether a record counts as dropped (R177). -/
def DrawRec.dropped : DrawRec → Bool
  | .bitmap _ _ w h _ _ data => bitmapShort w h data
  | _ => false

/-! ### The queue -/

/-- The front buffer (R168). -/
def Overlay.front (o : Overlay) : Memory := if o.frontB then o.bufB else o.bufA

/-- The back buffer (R168). -/
def Overlay.back (o : Overlay) : Memory := if o.frontB then o.bufA else o.bufB

/-- The back buffer is replaced. -/
def Overlay.setBack (o : Overlay) (m : Memory) : Overlay := if o.frontB then { o with bufA := m } else { o with bufB := m }

/-- The drawer takes the oldest record, or becomes IDLE (R171, R178). -/
def Overlay.takeNext (o : Overlay) : Overlay :=
  { o with st := match o.queue with
      | [] => .idle
      | .present :: _ => .waitFrame
      | _ => .drawing }

/-- R173: the record in execution completes with its pixels written. -/
def Overlay.finish (o : Overlay) (r : DrawRec) : Overlay :=
  let o1 := o.setBack (o.back.writeAll r.writes)
  Overlay.takeNext
    { o1 with queue := o.queue.tail, dropped := if r.dropped then satAdd top32 o.dropped 1 else o.dropped }

/-- R172: an accepted list of records is appended; an IDLE drawer takes the first. -/
def Overlay.append (o : Overlay) (rs : List DrawRec) : Overlay :=
  let o1 := { o with queue := o.queue ++ rs }
  if o.st = .idle then o1.takeNext else o1

/-- R168, R178 and R179: the drawer at a frame start: the swap of a PRESENT that waits, then the buffer that the frame is
sent from. -/
def Overlay.frame (o : Overlay) : Overlay :=
  if o.st = .waitFrame then { o with frontB := !o.frontB, st := .copying, scanB := !o.frontB }
  else { o with scanB := o.frontB }

/-- R178, steps 2 and 3: the copy-forward completes. -/
def Overlay.copied (o : Overlay) : Overlay :=
  let o1 := o.setBack o.front
  Overlay.takeNext { o1 with queue := o.queue.tail, presents := (o.presents + 1) % 65536 }

/-- R170: a list of colours, three bytes each. -/
def coloursOf : List Byte → List Rgb
  | r :: g :: b :: rest => ⟨r, g, b⟩ :: coloursOf rest
  | _ => []

/-- R170: palette entries from an index onward are replaced. -/
def setPalette (p : Vector Rgb 256) (first : Nat) (l : List Rgb) : Vector Rgb 256 :=
  Vector.ofFn (fun i : Fin 256 => if first ≤ i.val then l.getD (i.val - first) p[i] else p[i])

end Sys2Proof.Machine
end

