-- ==== Sys2Proof/Machine/StoreOps.lean ====
section
/-! DEFINITION. The Setup Store's operations (chapter 10): classification of what it reads, the course of a write, the LAST
write, the power-up load. -/

namespace Sys2Proof.Machine

/-- The duration of a write or an erase (R184): 12 ms. -/
def writeNs : Nat := 12 * ms

/-- R182 and R183: the directory entry that a read of a slot gives. -/
def dirOf : NvSlot → DirEntry
  | .erased => ⟨.erased, [], 0⟩
  | .valid name _ n => ⟨.valid, name, n⟩
  | .corrupt => ⟨.corrupt, [], 0⟩

/-- R191: the state that a read of a calibration entry gives. -/
def calRamOf : NvCal → CalRam
  | .erased => .unwritten
  | .data g o => if 14746 ≤ g ∧ g ≤ 18022 ∧ -64 ≤ o ∧ o ≤ 63 then .written g o else .corrupt
  | .corrupt => .corrupt

/-- R191 and R192: a calibration entry after a completed write; one that was not erased reads as CORRUPT. -/
def calWritten (g o : Int) : NvCal → NvCal
  | .erased => .data g o
  | _ => .corrupt

/-- An operation begins (R184). -/
def State.beginOp (s : State) (op : StoreOp) : State :=
  s.modStore (fun t => { t with st := .writing op (s.clock.now + writeNs), replyCancelled := false })

/-- R195: the LAST write begins with a snapshot of the live setup as it stands. -/
def State.beginLast (s : State) : State :=
  (s.modStore (fun t => { t with lastPending := false })).beginOp
    (.last s.setup.live (satAdd top32 s.store.dir[(0 : Fin 17)].count 1))

/-- R195: the LAST-write request of the Power Controller. -/
def State.requestLast (s : State) : State :=
  match s.store.st with
  | .idle => s.beginLast
  | _ => s.modStore (fun t => { t with lastPending := true })

/-- R194: the load begins. -/
def Store.beginLoad (t : Store) : Store := { t with st := .loading, loadPending := false, loadHanded := false }

/-- R194: the load request of the Power Controller. -/
def State.requestLoad (s : State) : State :=
  match s.store.st with
  | .idle => s.modStore Store.beginLoad
  | _ => s.modStore (fun t => { t with loadPending := true })

/-- What an operation leaves in the slots, the calibration area, the directory and the RAM copy at its completion (R183,
R185, R188, R192, R195). -/
def Store.apply (t : Store) : StoreOp → Store
  | .save i name vals n _ _ =>
    { t with slots := t.slots.set i (.valid name vals n), dir := t.dir.set i ⟨.valid, name, n⟩ }
  | .erase i => { t with slots := t.slots.set i .erased, dir := t.dir.set i ⟨.erased, [], 0⟩ }
  | .calWrite e g o =>
    { t with calArea := t.calArea.set e (calWritten g o t.calArea[e]), calRam := t.calRam.set e (.written g o) }
  | .last vals n =>
    { t with slots := t.slots.set 0 (.valid [] vals n), dir := t.dir.set 0 ⟨.valid, [], n⟩ }

/-- What a supply reset leaves of an operation that it cuts (R182, R190, R191): CORRUPT, unless an erased slot was being
erased. -/
def Store.cut (t : Store) : StoreOp → Store
  | .save i _ _ _ _ _ => { t with slots := t.slots.set i .corrupt }
  | .erase i => if t.slots[i] = .erased then t else { t with slots := t.slots.set i .corrupt }
  | .calWrite e _ _ => { t with calArea := t.calArea.set e .corrupt }
  | .last _ _ => { t with slots := t.slots.set 0 .corrupt }

/-- R190: the store after a supply reset. -/
def Store.supplyReset (t : Store) : Store :=
  let t1 := match t.st with
    | .writing op _ => t.cut op
    | _ => t
  { storeInitial with slots := t1.slots, calArea := t1.calArea }

/-- The channel and range of a calibration entry's number (R68): the channel counts from 1. -/
def calChannel (e : Fin 52) : Nat × Nat := (e.val / 13 + 1, e.val % 13)

/-- The reply that an operation sends at its completion, unless it is cancelled (R185, R188, R190, R192). -/
def State.storeReply (s : State) (op : StoreOp) : State :=
  match op with
  | .save i name _ n gen cl =>
    s.completeLong 0x50 (if cl then .clamped else .ok)
      (one i.val ++ one name.length ++ name ++ leBytes 4 n ++ leBytes 2 gen)
  | .erase i => s.completeLong 0x52 .ok (one i.val)
  | .calWrite e g o =>
    s.completeLong 0x54 .ok (one (calChannel e).1 ++ one (calChannel e).2 ++ leInt 2 g ++ leInt 1 o)
  | .last _ _ => s

/-- R69: a newly written calibration entry reaches the Front-End Controller. -/
def State.calHanded (s : State) : StoreOp → State
  | .calWrite e g o => s.modFe (fun f => { f with cal := f.cal.set e ⟨g, o, true⟩ })
  | _ => s

/-- The operation in flight completes, up to the report of a LAST write; what waited for it begins (R184, R194, R195). -/
def State.storeDone (s : State) (op : StoreOp) : State :=
  let cancelled := s.store.replyCancelled
  let s1 := (s.modStore (fun t => { t.apply op with st := .idle, replyCancelled := false })).calHanded op
  let s2 := if cancelled then s1 else s1.storeReply op
  if s2.store.lastPending then s2.beginLast
  else if s2.store.loadPending then s2.modStore Store.beginLoad
  else s2

/-- R194, steps 1 and 2: the directory, the RAM copy and the calibration table are filled. -/
def State.loadTables (s : State) : State :=
  (s.modStore (fun t =>
    { t with dir := Vector.ofFn (fun i : Fin 17 => dirOf t.slots[i])
             calRam := Vector.ofFn (fun e : Fin 52 => calRamOf t.calArea[e]) })).modFe
    (fun f => { f with cal := Vector.ofFn (fun e : Fin 52 => calEntryOf (calRamOf s.store.calArea[e])) })

/-- R194, step 3: the replacement with source POWER_UP. -/
def State.loadSetup (s : State) : State :=
  match s.store.slots[(0 : Fin 17)] with
  | .valid _ vals _ => s.replaceSetup (adjustAll vals) .powerUp .normal
  | _ => s.replaceSetup defaultVals .powerUp .lastInvalid

/-- R194, steps 1 to 3 of a load in flight, which are made once. -/
def State.loadHandover (s : State) : State :=
  if s.store.st = .loading ∧ s.store.loadHanded = false then
    (s.loadTables.loadSetup).modStore (fun t => { t with loadHanded := true })
  else s

/-- R194: what is left of the load, up to its report to the Power Controller. -/
def State.load (s : State) : State :=
  s.loadHandover.modStore (fun t => { t with loaded := true, st := .idle, loadHanded := false })

/-- R184: how a request of the store is turned away when the loaded flag is clear or the store is LOADING. -/
def State.storeUnready (s : State) : Bool := !s.store.loaded || decide (s.store.st = .loading)

/-- R184: the store is WRITING or the LAST-pending flag is set. -/
def State.storeOccupied (s : State) : Bool := s.storeBusy || s.store.lastPending

end Sys2Proof.Machine
end

