-- ==== Sys2Proof/Machine/PowerOps.lean ====
section
/-! DEFINITION. The Power Controller's operations (chapter 11): power-up (R197, R198), the POWER key (R199, R200), shutdown and
its abandonment (R201, R202), standby entry (R204), supply reset (R5) and RESET (R219). -/

namespace Sys2Proof.Machine

/-! ### Power-up -/

/-- R206: the rate of the rate straps in Mbit/s (Table 47). -/
def rateOf (p : Straps) : Nat :=
  if p.rateB then (if p.rateA then 24 else 12) else (if p.rateA then 6 else 3)

/-- R207: the link at an entry to UP: the receiver in HUNT, the three queues empty, the rate read. -/
def Link.enterUp (l : Link) (p : Straps) : Link :=
  { l with up := true, rate := rateOf p, rx := .hunt, byteEnd := none, rxq := [], replies := [], notices := []
           reservations := [], tx := none }

/-- R197, step 2: the report of the Front-End Controller ends FE_WAIT. -/
def State.feReport (s : State) : State :=
  if s.power.st = .poweringUp ∧ s.power.upStep = .feWait then
    (s.modPower (fun p => { p with upStep := .load })).requestLoad
  else s

/-- R197: the entry to POWERING_UP with a start cause; R183 clears the store's loaded flag, R146 starts scan-out, R44 samples
the encoders. -/
def State.enterPoweringUp (s : State) (c : StartCause) : State :=
  let s1 := s.modPower (fun p => { p with st := .poweringUp, cause := c, upStep := .feWait })
  let s2 := (s1.modStore (fun t => { t with loaded := false })).modLink (fun l => l.enterUp s1.pins.straps)
  let s3 := (s2.modPanel (fun p => p.sampleEncoders s2.pins)).startBlink
  let s4 := s3.modDisp (fun d => { d with scanning := true, frameBase := s3.clock.now, frameIx := 0 })
  match s4.enableFe with
  | (true, s5) => s5.feReport
  | (false, s5) => s5

/-- R101: a power start has no effect while the fault flag is set; otherwise it is RUN or SINGLE with cause POWER. -/
def State.powerStart (s : State) (m : RunMode) : State := if s.runRefused then s else s.runAs m .power

/-- R198: the entry to ON at the completion of the load. -/
def State.enterOn (s : State) : State :=
  ((s.modPower (fun p => { p with st := .on })).endBlink.acqOnEntry).powerStart .run

/-- R197, step 3: the store's report that the load has completed. -/
def State.loadReport (s : State) : State :=
  if s.power.st = .poweringUp ∧ s.power.upStep = .load then s.enterOn else s

/-! ### Shutdown -/

/-- R201: the entry to SHUTTING_DOWN from ON. -/
def State.beginShutdown (s : State) : State :=
  let saved : Bool × RunMode := (!s.stopped, s.acq.mode)
  let s1 := (s.modPower (fun p =>
    { p with st := .shuttingDown, downStep := .lastWrite, saved := some saved, holdEnd := none })).startBlink
  (s1.stopAcq .stop .power).requestLast

/-- The STANDBY reply is queued, unless the reply-cancelled flag is set (R201, R202). -/
def State.standbyReply (s : State) (st : Status) : State :=
  if s.power.replyCancelled then s else s.completeLong 0x58 st []

/-- R201, step 1: the store's report that the LAST write has completed. -/
def State.lastReport (s : State) : State :=
  if s.power.st = .shuttingDown ∧ s.power.downStep = .lastWrite then
    (s.standbyReply .ok).modPower (fun p => { p with downStep := .grace, graceEnd := some (s.clock.now + 200 * ms) })
  else s

/-- R202: a POWER press in LAST_WRITE abandons the shutdown. -/
def State.abandonShutdown (s : State) : State :=
  let s1 := (s.modStore (fun t => { t with lastPending := false })).standbyReply .standbyAborted
  let s2 := (s1.modPower (fun p => { p with st := .on, replyCancelled := false, saved := none })).endBlink
  match s.power.saved with
  | some (true, m) => s2.powerStart m
  | _ => s2

/-- R199: a PRESS of the POWER key, recognised at millisecond time `t`. -/
def State.powerPressed (s : State) (t : Nat) : State :=
  match s.power.st with
  | .standby =>
    (s.modPower (fun p => { p with forcedOff := false })).enterPoweringUp
      (if s.power.forcedOff then .forcedOff else .powerKey)
  | .poweringUp => s
  | .on =>
    (s.offer (.powerKey t)).modPower (fun p => { p with holdEnd := some (s.clock.now + 4000 * ms) })
  | .shuttingDown => if s.power.downStep = .lastWrite then s.abandonShutdown else s

/-- R199: a RELEASE of the POWER key. -/
def State.powerReleased (s : State) : State :=
  if s.power.st = .on then s.modPower (fun p => { p with holdEnd := none }) else s

/-! ### Standby entry (R204) -/

/-- R207: the link at standby entry. -/
def Link.standby (l : Link) : Link := { linkInitial with rate := l.rate }

/-- R145: the Measurement Unit's reset values; the gate, once OPEN, is announced when it was CLOSED (R138). -/
def State.measReset (s : State) : State :=
  (s.modMeas (fun m => { measInitial with gateShut := m.gateShut })).showGate

/-- Announcements still on their way are lost; the slots on offer become EMPTY (log entries 13 and 40). -/
def State.dropBoxes (s : State) : State :=
  (s.modRing (fun r => { r with slots := s.boxes.offers.foldl (fun l i => l.set i .empty) r.slots })).modBoxes
    (fun _ => boxesEmpty)

/-- R204: standby entry in every block, after the announcements still on their way are dropped. -/
def State.standbyEntry (s : State) : State :=
  let s1 := s.dropBoxes
  let s2 := s1.modPower (fun p =>
    { p with st := .standby, holdEnd := none, graceEnd := none, saved := none, replyCancelled := false })
  let s3 := (s2.modLink Link.standby).modSetup (fun u => { u with undo := [] })
  let s4 := (s3.modPanel Panel.standby).feStandby
  ((s4.acqStandby.resetRing.dispReset false).modOv (fun _ => overlayInitial)).measReset

/-- R200: the forced standby at the hold timer's expiry. -/
def State.forcedStandby (s : State) : State :=
  ((s.stopAcq .stop .power).modPower (fun p => { p with forcedOff := true })).standbyEntry

/-! ### Supply reset and RESET -/

/-- R5: every block takes its supply-reset values, with the straps that the part finds; the nonvolatile content is kept
(R190), the input pins keep their levels, and the commands that wait keep waiting. That the announcements and offers on
their way are dropped is DESIGN CHOICE (log entry 18). -/
def State.supplyReset (s : State) (p : Straps) : State :=
  let pins := { s.pins with straps := p }
  let s1 : State :=
    { State.reset with
      pending := s.pending, pins := pins, panel := panelInitial.sampleEncoders pins, store := s.store.supplyReset
      freeCtr := s.freeCtr }
  if p.autoOn then s1.enterPoweringUp .autoOn else s1

/-- R190 and R219: at the moment `now` this is the reply of a long operation (SAVE, ERASE, CAL_WRITE, STANDBY) that has
completed, and no time has passed since its transmission began: the completion and a RESET that is taken now fall together. -/
def Transmission.justCompleted (x : Transmission) (rate now : Nat) : Bool :=
  x.frame.kind == 2 && [0x50#8, 0x52#8, 0x54#8, 0x58#8].contains x.frame.code &&
    [Status.ok, .clamped, .standbyAborted].any (fun st => x.frame.status == byte st.code) &&
    x.endAt == now + frameTime rate x.frame.payload.length

/-- Steps 1 and 2 of R219: the link queues are flushed, the errors and the mask take their defaults. A frame in transmission
is completed; but the reply of a long operation whose completion falls together with the RESET, and is taken before it, counts
as still queued and is flushed, idle transmitter or not: DEDUCED from R190 and R219, which let the host receive no reply in
either order (log entry 45). -/
def Link.flush (l : Link) (now : Nat) : Link :=
  { l with rxq := [], replies := [], notices := [], reservations := [], lost := 0, mask := defaultMask
           tx := l.tx.filter (fun x => !x.justCompleted l.rate now)
           latched := Vector.replicate 6 false, errors := Vector.replicate 6 0 }

/-- The Setup Controller, the Record Ring and the Acquisition Engine take a RESET in one of the orders that R102 and R123
leave open. -/
def State.resetSre (s : State) (o : BlockOrder) : State :=
  let su (t : State) : State := t.replaceSetup defaultVals .reset .normal
  match o with
  | .sre => (su s).resetRing.acqReset
  | .ser => (su s).acqReset.resetRing
  | .rse => (su s.resetRing).acqReset
  | .res => su s.resetRing.acqReset
  | .esr => (su s.acqReset).resetRing
  | .ers => su s.acqReset.resetRing

/-- R190: a RESET cancels the reply of the operation in flight. -/
def Store.cancelReply (t : Store) : Store :=
  match t.st with
  | .writing _ _ => { t with replyCancelled := true }
  | _ => t

/-- R219: a RESET request: the flush, its reply, the announcement to every block. With `afterHandover` steps 1 to 3 of a load
in flight come before it (R203). -/
def State.resetAll (s : State) (tag : Byte) (o : ResetOrder) : State :=
  let s0 := if o.afterHandover then s.loadHandover else s
  let s1 := (s0.modLink (·.flush s0.clock.now)).pushReply ⟨tag, 0x63, .ok, []⟩
  let s2 := (s1.modPanel Panel.defaults).modOv (fun _ => overlayInitial)
  let s3 := (s2.modStore Store.cancelReply).modPower (fun p =>
    { p with replyCancelled := p.replyCancelled || decide (p.st = .shuttingDown ∧ p.downStep = .lastWrite) })
  ((s3.resetSre o.blocks).dispReset s.disp.scanning).measReset

end Sys2Proof.Machine
end

