-- ==== Sys2Proof/Machine/LinkOps.lean ====
section
/-! DEFINITION. The receiver of the Link Interface (R208 to R211): framing, refusals and their rescan, the receive queue,
breaks. -/

namespace Sys2Proof.Machine

/-- Two milliseconds: the inter-byte timer (R208). -/
def interByteNs : Nat := 2 * ms

/-- R209 to R211: an error is latched and counted. -/
def Link.noteError (l : Link) (c : LinkErr) : Link :=
  { l with latched := l.latched.set c.ix true, errors := modAt l.errors c.ix (fun n => satAdd top16 n 1) }

/-- R209: an error is latched, counted and reported by a LINK_ERROR notice. -/
def State.linkError (s : State) (c : LinkErr) (tag : Option Byte) : State :=
  (s.modLink (·.noteError c)).offer (.linkError c tag)

/-- R211: a good frame enters the receive queue; a full queue loses its newest frame, with an OVERRUN. -/
def State.acceptFrame (s : State) (f : Frame) : State :=
  if s.link.rxq.length < 4 then s.modLink (fun l => { l with rxq := l.rxq ++ [f] })
  else
    let lost := s.link.rxq.getLast?.map (·.tag)
    (s.modLink (fun l => { l with rxq := l.rxq.dropLast ++ [f] })).linkError .overrun lost

/-- What a byte makes of the frame in progress. -/
inductive RxOut where
  | keep
  | good (f : Frame)
  | refused (c : LinkErr)
  deriving DecidableEq, Repr

/-- The payload length that the length bytes of a frame give. -/
def frameLength (bs : List Byte) : Nat := argU bs 4 2

/-- R208 and R209: the bytes after the start mark, the newest included, tested. -/
def rxTest (bs : List Byte) : RxOut :=
  let n := frameLength bs
  if bs.length = 1 then (if bs.headD 0 = 1 then .keep else .refused .kind)
  else if bs.length < 6 then .keep
  else if 512 < n then .refused .length
  else if bs.length < 8 + n then .keep
  else if argU bs (6 + n) 2 = (crc16 (bs.take (6 + n))).toNat then
    .good ⟨bs.getD 0 0, bs.getD 1 0, bs.getD 2 0, bs.getD 3 0, (bs.drop 6).take n⟩
  else .refused .crc

/-- The tag that a LINK_ERROR notice carries: the tag received, absent before it arrives (R209). -/
def tagOf (bs : List Byte) : Option Byte := bs[1]?

/-- The receiver takes bytes in order; a refusal puts the kept bytes before those that follow (R209). `fuel` bounds the
number of bytes taken, rescans included. That the dispatcher takes no frame between two good frames of one rescan, so that the
arrivals of R211 all come first, is DESIGN CHOICE (log entry 46). -/
def State.rxFeed : Nat → List Byte → State → State
  | 0, _, s => s
  | _, [], s => s
  | fuel + 1, b :: rest, s =>
    match s.link.rx with
    | .brk => s
    | .hunt =>
      State.rxFeed fuel rest (if b = 0xC3#8 then s.modLink (fun l => { l with rx := .inFrame [] }) else s)
    | .inFrame bs =>
      match rxTest (bs ++ [b]) with
      | .keep => State.rxFeed fuel rest (s.modLink (fun l => { l with rx := .inFrame (bs ++ [b]) }))
      | .good f => State.rxFeed fuel rest ((s.modLink (fun l => { l with rx := .hunt })).acceptFrame f)
      | .refused c =>
        State.rxFeed fuel ((bs ++ [b]) ++ rest)
          ((s.modLink (fun l => { l with rx := .hunt })).linkError c (if c = .kind then none else tagOf (bs ++ [b])))

/-- R208: each byte restarts the inter-byte timer, which runs in HEADER, PAYLOAD and CHECK. -/
def State.restartByteTimer (s : State) : State :=
  s.modLink (fun l =>
    { l with byteEnd := match l.rx with
        | .inFrame _ => some (s.clock.now + interByteNs)
        | _ => none })

/-- The bytes kept of the frame in progress. -/
def Receiver.kept : Receiver → List Byte
  | .inFrame bs => bs
  | _ => []

/-- Enough steps for `n` bytes and every rescan they can cause: a rescan begins one byte later than the scan before. -/
def rxFuel (n : Nat) : Nat := (n + 2) * (n + 2)

/-- R208: a byte arrives on an UP link; in BREAK it is not taken. -/
def State.receive (s : State) (b : Byte) : State :=
  if s.link.up then
    match s.link.rx with
    | .brk => s
    | rx => (State.rxFeed (rxFuel (rx.kept.length + 1)) [b] s).restartByteTimer
  else s

/-- R209: the inter-byte timer expires: the frame in progress is refused and rescanned. -/
def State.byteTimeout (s : State) (bs : List Byte) : State :=
  let s1 := (s.modLink (fun l => { l with rx := .hunt })).linkError .timeout (tagOf bs)
  (State.rxFeed (rxFuel bs.length) bs s1).restartByteTimer

/-- R210: a break is detected. -/
def Link.breakStart (l : Link) : Link :=
  { (l.noteError .brk) with rx := .brk, byteEnd := none, rxq := [], notices := [], lost := 0 }

end Sys2Proof.Machine
end

