-- ==== Sys2Proof/Machine/Setup.lean ====
section
/-! DEFINITION. The meanings of the Setup Controller's requests (2.6, Table 52 codes 01h to 07h). -/

namespace Sys2Proof.Machine

/-- R23: the Setup Controller's answer to SET_FIELD. -/
def ownSetField (p : List Byte) (s : State) : Answer × State :=
  let e := entryAt p 0
  match fieldIx e.1 with
  | none => (.reply .badField (entryBytes e.1 0), s)
  | some i =>
    match checkValue (fieldInfo i) e.2 with
    | .refused => (.reply .badValue (entryBytes e.1 s.setup.live[i]), s)
    | .value v clamped =>
      let s1 := s.applyField i v .host none
      (.reply (if clamped then .clamped else .ok) (entryBytes e.1 s1.setup.live[i]), s1)

/-- SET_FIELD (R23). -/
def execSetField (tag : Byte) (payload : List Byte) (s : State) : Host.Outcome State Fault Refusal :=
  request 0x01 (len 10) ownSetField tag payload s

/-- R24: the answer to GET_FIELD. -/
def ownGetField (p : List Byte) (s : State) : Status × List Byte :=
  let id := argU p 0 2
  match fieldIx id with
  | none => (.badField, [])
  | some i => (.ok, entryBytes id s.setup.live[i])

/-- GET_FIELD (R24). -/
def execGetField (tag : Byte) (payload : List Byte) (s : State) : Host.Outcome State Fault Refusal :=
  request 0x02 (len 2) (readOnly ownGetField) tag payload s

/-- R24: the answer to GET_GROUP. -/
def ownGetGroup (p : List Byte) (s : State) : Status × List Byte :=
  let g := argU p 0 1
  if g ≤ 13 then
    (.ok, leBytes 2 s.setup.gen ++
      (groupFields g).flatMap (fun i => entryBytes (fieldInfo i).id s.setup.live[i]))
  else (.badValue, [])

/-- GET_GROUP (R24). -/
def execGetGroup (tag : Byte) (payload : List Byte) (s : State) : Host.Outcome State Fault Refusal :=
  request 0x03 (len 1) (readOnly ownGetGroup) tag payload s

/-- What the examination of SET_GROUP's entries gives (R25): the checked values with whether each was clamped, or the
refusal of the first faulty entry. -/
inductive GroupCheck where
  | accepted (l : List (Fin 87 × Int × Bool))
  | refused (st : Status) (id : Nat)
  deriving DecidableEq, Repr

/-- Step 2 of R25: the entries examined in the order given; `seen` holds the ids already listed. -/
def checkEntries (g : Nat) : List Nat → List (Nat × Int) → GroupCheck
  | _, [] => .accepted []
  | seen, (id, v) :: rest =>
    match fieldIx id with
    | none => .refused .badField id
    | some i =>
      if groupOf id ≠ g ∨ id ∈ seen then .refused .badField id
      else
        match checkValue (fieldInfo i) v with
        | .refused => .refused .badValue id
        | .value w cl =>
          match checkEntries g (id :: seen) rest with
          | .accepted l => .accepted ((i, w, cl) :: l)
          | .refused st x => .refused st x

/-- R25: the Setup Controller's answer to SET_GROUP. -/
def ownSetGroup (p : List Byte) (s : State) : Answer × State :=
  let g := argU p 0 1
  if 13 < g then (.reply .badValue [], s)
  else
    match checkEntries g [] (entriesAt p 1 ((p.length - 1) / 10)) with
    | .refused st id => (.reply st (leBytes 2 id), s)
    | .accepted l =>
      let s1 := s.replaceSetup (l.foldl (fun v e => v.set e.1 e.2.1) s.setup.live) .host .normal
      (.reply (if l.any (fun e => e.2.2) then .clamped else .ok)
        (l.flatMap (fun e => entryBytes (fieldInfo e.1).id e.2.1)), s1)

/-- The lengths 11, 21, …, 101 of SET_GROUP (Table 52). -/
def groupLen (k : Nat) : Bool := decide (11 ≤ k ∧ k ≤ 101 ∧ k % 10 = 1)

/-- SET_GROUP (R25). -/
def execSetGroup (tag : Byte) (payload : List Byte) (s : State) : Host.Outcome State Fault Refusal :=
  request 0x04 groupLen ownSetGroup tag payload s

/-- R26: the answer to DEFAULT_SETUP. Its SETUP_REPLACED is offered before the reply is queued (log entry 38). -/
def ownDefaultSetup (_ : List Byte) (s : State) : Answer × State := (ansOk, s.applyDefaults)

/-- DEFAULT_SETUP (R26). -/
def execDefaultSetup (tag : Byte) (payload : List Byte) (s : State) : Host.Outcome State Fault Refusal :=
  request 0x05 (len 0) ownDefaultSetup tag payload s

/-- R27: the answer to UNDO. Its notice is offered before the reply is queued (log entry 38). -/
def ownUndo (_ : List Byte) (s : State) : Answer × State :=
  match s.setup.undo.getLast? with
  | none => (.reply .nothingToUndo [], s)
  | some (.field i prev _ _ _) => (.reply .ok (one 1 ++ entryBytes (fieldInfo i).id prev), s.applyUndo)
  | some (.snapshot _) => (.reply .ok (one 2), s.applyUndo)

/-- UNDO (R27). -/
def execUndo (tag : Byte) (payload : List Byte) (s : State) : Host.Outcome State Fault Refusal :=
  request 0x06 (len 0) ownUndo tag payload s

/-- The description of an undo entry in GET_UNDO_DEPTH's reply: kind, field id, source (R27, Table 57). -/
def undoDescription : Option UndoEntry → List Byte
  | none => one 0 ++ leBytes 2 0 ++ one 0
  | some (.field i _ src _ _) => one 1 ++ leBytes 2 (fieldInfo i).id ++ one src.code
  | some (.snapshot _) => one 2 ++ leBytes 2 0 ++ one 0

/-- R27: the answer to GET_UNDO_DEPTH. -/
def ownGetUndoDepth (_ : List Byte) (s : State) : Status × List Byte :=
  (.ok, one s.setup.undo.length ++ undoDescription s.setup.undo.getLast?)

/-- GET_UNDO_DEPTH (R27). -/
def execGetUndoDepth (tag : Byte) (payload : List Byte) (s : State) : Host.Outcome State Fault Refusal :=
  request 0x07 (len 0) (readOnly ownGetUndoDepth) tag payload s

end Sys2Proof.Machine
end

