-- ==== Sys2Proof/Machine/PanelMeanings.lean ====
section
/-! DEFINITION. The meanings of the Panel Scanner's events and requests (chapter 3, Table 52 codes 10h to 18h). -/

namespace Sys2Proof.Machine

/-! ### Keys -/

/-- KEY_SCAN (R29 to R31): a scan falls every 1 ms. The announcements that wait for the Panel Scanner are taken at it: they
change nothing, since the scanner reads KEYCLICK and the fields of its LEDs from the live setup (R9, R33, log entry 39). -/
def execKeyScan (raw : BitVec 64) (s : State) : Host.Outcome State Fault Refusal :=
  .next ((((s.advanceTo s.panel.scanAt).scan raw).modPanel (fun p => { p with scanAt := p.scanAt + ms })).modBoxes
    (fun b => { b with panel := [] }))

/-- KEY_PRESS (R33, R39, R199): the oldest recognised change is treated when it is a press of `p`. -/
def execKeyPress (p : Fin 64) (s : State) : Host.Outcome State Fault Refusal :=
  match s.panel.due with
  | ⟨q, true, t, a⟩ :: rest =>
    if q = p then
      let s1 := s.modPanel (fun k => { k with due := rest })
      .next (if p = 0 then s1.powerPressed t else s1.keyPressed p t a)
    else .next s
  | _ => .next s

/-- KEY_RELEASE (R30, R33, R199): the oldest recognised change is treated when it is a release of `p`. -/
def execKeyRelease (p : Fin 64) (s : State) : Host.Outcome State Fault Refusal :=
  match s.panel.due with
  | ⟨q, false, t, _⟩ :: rest =>
    if q = p then
      let s1 := s.modPanel (fun k => { k with due := rest })
      .next (if p = 0 then s1.powerReleased else s1.queueKey p .release t)
    else .next s
  | _ => .next s

/-- KEY_REPEAT (R32): the repeat timer of a held key expires; its PRESS has been treated. -/
def execKeyRepeat (p : Fin 64) (s : State) : Host.Outcome State Fault Refusal :=
  match s.panel.keys[p].repeatAt with
  | some t =>
    if s.panel.due.any (fun d => d.pos == p) then .next s
    else
      let s1 := (s.advanceTo t).modPanel (fun k =>
        { k with keys := modAt k.keys p (fun x => { x with repeatAt := some (t + 80 * ms) }) })
      .next (s1.queueKey p .repeated s1.msTime)
  | none => .next s

/-- R37: the answer to GET_KEYS. -/
def ownGetKeys (_ : List Byte) (s : State) : Answer × State :=
  let evs := s.panel.queue.take 16
  (.reply .ok (one evs.length ++ evs.flatMap keyEventBytes),
    s.modPanel (fun p => { p with queue := p.queue.drop 16 }))

/-- GET_KEYS (R37). -/
def execGetKeys (tag : Byte) (payload : List Byte) (s : State) : Host.Outcome State Fault Refusal :=
  request 0x10 (len 0) ownGetKeys tag payload s

/-- The channel that a number 1..4 names. -/
def channelArg (n : Nat) : Option (Fin 4) := if h : 1 ≤ n ∧ n ≤ 4 then some ⟨n - 1, by omega⟩ else none

/-- Table 56: the key action of a number and a channel number. -/
def actionOf (a ch : Nat) : Option KeyAction :=
  match a with
  | 0 => some .none
  | 1 => some .runStop
  | 2 => some .single
  | 3 => some .forceTrigger
  | 4 => some .defaultSetup
  | 5 => some .undo
  | 6 => (channelArg ch).map .channelToggle
  | 7 => some .levelToMid
  | 8 => (channelArg ch).map .positionZero
  | _ => none

/-- The position that a number names. -/
def positionArg (n : Nat) : Option (Fin 64) := if h : n < 64 then some ⟨n, h⟩ else none

/-- R43: the answer to SET_KEY_ACTION. -/
def ownSetKeyAction (p : List Byte) (s : State) : Answer × State :=
  match positionArg (argU p 0 1), actionOf (argU p 1 1) (argU p 2 1) with
  | some q, some a =>
    if q = 0 then (.reply .badValue [], s)
    else
      (ansOk, s.modPanel (fun k => { k with actions := k.actions.set q ⟨a, decide (argU p 3 1 ≠ 0)⟩ }))
  | _, _ => (.reply .badValue [], s)

/-- SET_KEY_ACTION (R43). -/
def execSetKeyAction (tag : Byte) (payload : List Byte) (s : State) : Host.Outcome State Fault Refusal :=
  request 0x11 (len 4) ownSetKeyAction tag payload s

/-- R43: the answer to GET_KEY_ACTION. -/
def ownGetKeyAction (p : List Byte) (s : State) : Status × List Byte :=
  match positionArg (argU p 0 1) with
  | some q =>
    let e := s.panel.actions[q]
    (.ok, one q.val ++ one e.action.code ++ one e.action.channel ++ [flagByte e.report])
  | none => (.badValue, [])

/-- GET_KEY_ACTION (R43). -/
def execGetKeyAction (tag : Byte) (payload : List Byte) (s : State) : Host.Outcome State Fault Refusal :=
  request 0x12 (len 1) (readOnly ownGetKeyAction) tag payload s

/-! ### Encoders -/

/-- ENCODER_TRANSITION (R44, R45): the pair (`a`, `b`) is now at encoder `e`; in STANDBY it is not sampled. -/
def execEncoderTransition (e : Fin 12) (a b : Bool) (s : State) : Host.Outcome State Fault Refusal :=
  let s1 := s.modPins (fun x => { x with encA := x.encA.set e a, encB := x.encB.set e b })
  if s.power.st = .standby then .next s1
  else .next (s1.modPanel (fun p => { p with encs := modAt p.encs e (fun x => x.turn s.clock.now a b) }))

/-- ENCODER_WINDOW_END (R45, R47, R48). -/
def execEncoderWindowEnd (e : Fin 12) (s : State) : Host.Outcome State Fault Refusal :=
  match s.panel.encs[e].window with
  | some w =>
    .next (((s.advanceTo w.endAt).modPanel (fun p =>
      { p with encs := modAt p.encs e (fun x => { x with window := none }) })).windowApplied e w.count)
  | none => .next s

/-- The encoder that a number names. -/
def encoderArg (n : Nat) : Option (Fin 12) := if h : n < 12 then some ⟨n, h⟩ else none

/-- R49: the answer to SET_BINDING. -/
def ownSetBinding (p : List Byte) (s : State) : Answer × State :=
  let id := argU p 1 2
  let step := argU p 3 1
  match encoderArg (argU p 0 1) with
  | none => (.reply .badValue [], s)
  | some e =>
    if id ≠ 0 ∧ fieldIx id = none then (.reply .badField [], s)
    else if step < 1 ∨ 100 < step then (.reply .badValue [], s)
    else
      (ansOk, s.modPanel (fun k =>
        { k with bindings := k.bindings.set e ⟨fieldIx id, step, decide (argU p 4 1 ≠ 0)⟩ }))

/-- SET_BINDING (R49). -/
def execSetBinding (tag : Byte) (payload : List Byte) (s : State) : Host.Outcome State Fault Refusal :=
  request 0x13 (len 5) ownSetBinding tag payload s

/-- The id that a bound or absent field is sent as. -/
def bindingId (b : Binding) : Nat :=
  match b.field with
  | some i => (fieldInfo i).id
  | none => 0

/-- R49: the answer to GET_BINDING. -/
def ownGetBinding (p : List Byte) (s : State) : Status × List Byte :=
  match encoderArg (argU p 0 1) with
  | some e =>
    let b := s.panel.bindings[e]
    (.ok, one e.val ++ leBytes 2 (bindingId b) ++ one b.step ++ [flagByte b.accel])
  | none => (.badValue, [])

/-- GET_BINDING (R49). -/
def execGetBinding (tag : Byte) (payload : List Byte) (s : State) : Host.Outcome State Fault Refusal :=
  request 0x14 (len 1) (readOnly ownGetBinding) tag payload s

/-! ### LEDs -/

/-- LED_BLINK_TOGGLE (R50): a blink phase of 250 ms ends. -/
def execLedBlinkToggle (s : State) : Host.Outcome State Fault Refusal :=
  match s.panel.blinkEnd with
  | some t =>
    .next ((s.advanceTo t).modPanel (fun p =>
      { p with blinkGreen := !p.blinkGreen, blinkEnd := some (t + 250 * ms) }))
  | none => .next s

/-- The override of a setting number (Table 56). -/
def overrideOf (n : Nat) : Option LedOverride :=
  match n with
  | 0 => some .auto
  | 1 => some .forceOn
  | 2 => some .forceOff
  | _ => none

/-- R52: the answer to SET_LED. -/
def ownSetLed (p : List Byte) (s : State) : Answer × State :=
  let n := argU p 0 1
  let v := argU p 1 1
  if h : n < 12 then
    match overrideOf v with
    | some o =>
      let s1 := s.modPanel (fun k => { k with overrides := k.overrides.set n o })
      (.reply .ok (one n ++ one (s1.ledAuto ⟨n, h⟩).code), s1)
    | none => (.reply .badValue [], s)
  else if h : n < 24 then
    if v ≤ 1 then
      let s1 := s.modPanel (fun k => { k with hostLeds := k.hostLeds.set (n - 12) (decide (v = 1)) })
      (.reply .ok (one n ++ one (s1.ledHost ⟨n - 12, by omega⟩).code), s1)
    else (.reply .badValue [], s)
  else (.reply .badValue [], s)

/-- SET_LED (R52). -/
def execSetLed (tag : Byte) (payload : List Byte) (s : State) : Host.Outcome State Fault Refusal :=
  request 0x15 (len 2) ownSetLed tag payload s

/-- R52: the answer to GET_LEDS. -/
def ownGetLeds (_ : List Byte) (s : State) : Status × List Byte :=
  (.ok,
    (List.finRange 12).flatMap (fun i =>
      one (s.ledAuto i).code ++ one s.panel.overrides[i].code ++ [flagByte (s.ledSource i != .dark)]) ++
    (List.finRange 12).flatMap (fun i => one (s.ledHost i).code ++ [flagByte s.panel.hostLeds[i]] ++ one 0))

/-- GET_LEDS (R52). -/
def execGetLeds (tag : Byte) (payload : List Byte) (s : State) : Host.Outcome State Fault Refusal :=
  request 0x16 (len 0) (readOnly ownGetLeds) tag payload s

/-! ### Beeper and status -/

/-- R55: the answer to BEEP. -/
def ownBeep (p : List Byte) (s : State) : Answer × State :=
  let f := argU p 0 2
  let d := argU p 2 2
  let f' := min 8000 (max 100 f)
  let d' := min 2000 (max 1 d)
  match s.tone 2 f' d' with
  | (true, s1) =>
    (.reply (if f = f' ∧ d = d' then .ok else .clamped) (leBytes 2 f' ++ leBytes 2 d'), s1)
  | (false, s1) => (.reply .busy [], s1)

/-- BEEP (R55). -/
def execBeep (tag : Byte) (payload : List Byte) (s : State) : Host.Outcome State Fault Refusal :=
  request 0x17 (len 4) ownBeep tag payload s

/-- TONE_END (R54). -/
def execToneEnd (s : State) : Host.Outcome State Fault Refusal :=
  match s.panel.tone with
  | some t => .next ((s.advanceTo t.endAt).modPanel (fun p => { p with tone := none }))
  | none => .next s

/-- The down set of GET_PANEL_STATUS: bit p of byte p / 8; position 0 reads 0 (R56, Table 57). -/
def downSet (k : Vector KeyState 64) : List Byte :=
  (List.finRange 8).map (fun r => byte ((List.finRange 8).map (fun c =>
    if k[keyAt r c].down && !decide (keyAt r c = 0) then 2 ^ c.val else 0)).sum)

/-- R56: the answer to GET_PANEL_STATUS. -/
def ownGetPanelStatus (_ : List Byte) (s : State) : Status × List Byte :=
  (.ok, one s.panel.queue.length ++ downSet s.panel.keys ++
    (List.finRange 12).flatMap (fun e => leBytes 2 s.panel.encs[e].illegal) ++
    one (match s.panel.tone with
      | some t => t.rank
      | none => 0))

/-- GET_PANEL_STATUS (R56). -/
def execGetPanelStatus (tag : Byte) (payload : List Byte) (s : State) : Host.Outcome State Fault Refusal :=
  request 0x18 (len 0) (readOnly ownGetPanelStatus) tag payload s

end Sys2Proof.Machine
end

