-- ==== Sys2Proof/Machine/FrontEndMeanings.lean ====
section
/-! DEFINITION. The meanings of the Front-End Controller's events and of GET_FE_STATUS (chapter 4). -/

namespace Sys2Proof.Machine

/-- FE_SETUP_ANNOUNCEMENT (R60, R67): the oldest announcement is taken; one that informs every block calls for a full
reprogram. -/
def execFeSetupAnnouncement (s : State) : Host.Outcome State Fault Refusal :=
  match s.boxes.fe with
  | a :: rest => .next ((s.modBoxes (fun b => { b with fe := rest })).programFe a.whole)
  | [] => .next s

/-- FE_LATCH (R60 to R62, R67). -/
def execFeLatch (s : State) : Host.Outcome State Fault Refusal :=
  match s.fe.port with
  | some t => .next ((s.advanceTo t.endAt).latch t)
  | none => .next s

/-- SETTLE_TIMER_END (R62, R63). -/
def execSettleTimerEnd (s : State) : Host.Outcome State Fault Refusal :=
  match s.fe.settleEnd with
  | some t => .next ((s.advanceTo t).modFe (fun f => { f with settleEnd := none })).showReadiness
  | none => .next s

/-- FE_READY_RISE (R64, R66): ignored in the conditions OFF and UP. -/
def execFeReadyRise (s : State) : Host.Outcome State Fault Refusal :=
  if s.pins.feReady then .next s
  else
    let s1 := s.modPins (fun p => { p with feReady := true })
    match s.fe.cond with
    | .waitReady => .next s1.feUp.feReport
    | .fault => .next (s1.feUp.announceFault false)
    | .off => .next s1
    | .up => .next s1

/-- FE_READY_FALL (R65): acts in the condition UP; not consulted during the final transfer of standby entry (R67). -/
def execFeReadyFall (s : State) : Host.Outcome State Fault Refusal :=
  if s.pins.feReady then
    let s1 := s.modPins (fun p => { p with feReady := false })
    if s.fe.cond = .up ∧ (s.fe.port.any (fun t => t.final)) = false then .next s1.feFall else .next s1
  else .next s

/-- READY_WAIT_EXPIRY (R64, R197). -/
def execReadyWaitExpiry (s : State) : Host.Outcome State Fault Refusal :=
  match s.fe.waitEnd with
  | some t =>
    .next ((((s.advanceTo t).modFe (fun f =>
      { f with cond := .fault, waitEnd := none })).announceFault true).feReport)
  | none => .next s

/-- One channel's part of GET_FE_STATUS (R73, Table 57). -/
def State.feChannel (s : State) (c : Fin 4) : List Byte :=
  let w := s.fe.latched[c]
  [flagByte w.div100] ++ one w.gain.toNat ++ one w.coupling.toNat ++ [flagByte w.bwl, flagByte w.power] ++
    [flagByte (decide (w ≠ feWordOf s.setup.live c)), flagByte (s.fe.calAt c (s.fld (idVdiv c))).cal]

/-- R73: the answer to GET_FE_STATUS. -/
def ownGetFeStatus (_ : List Byte) (s : State) : Status × List Byte :=
  (.ok, one s.fe.cond.code ++ [flagByte s.pins.feReady, flagByte s.feReadyNow, flagByte s.fe.port.isSome] ++
    leBytes 4 (s.remaining 1000 s.fe.settleEnd) ++ leBytes 2 (s.remaining ms s.fe.waitEnd) ++
    (List.finRange 4).flatMap s.feChannel)

/-- GET_FE_STATUS (R73). -/
def execGetFeStatus (tag : Byte) (payload : List Byte) (s : State) : Host.Outcome State Fault Refusal :=
  request 0x20 (len 0) (readOnly ownGetFeStatus) tag payload s

end Sys2Proof.Machine
end

