-- ==== Sys2Proof/Machine/AcquisitionMeanings.lean ====
section
/-! DEFINITION. The meanings of the Acquisition Engine's announcements, timers, samples and requests (chapter 5, Table 52
codes 28h to 2Ch). -/

namespace Sys2Proof.Machine

/-! ### Announcements -/

/-- SETTLING_BEGAN (R95, R78): the oldest readiness announcement is taken when it is "settling began". -/
def execSettlingBegan (s : State) : Host.Outcome State Fault Refusal :=
  match s.boxes.settle with
  | true :: rest => .next (s.modBoxes (fun b => { b with settle := rest })).settlingBegan
  | _ => .next s

/-- SETTLING_ENDED (R78). -/
def execSettlingEnded (s : State) : Host.Outcome State Fault Refusal :=
  match s.boxes.settle with
  | false :: rest =>
    let s1 := s.modBoxes (fun b => { b with settle := rest })
    .next (if s1.acq.st = .settling then s1.startCapture else s1)
  | _ => .next s

/-- FAULT_ANNOUNCEMENT (R99). -/
def execFaultAnnouncement (s : State) : Host.Outcome State Fault Refusal :=
  match s.boxes.fault with
  | true :: rest => .next (s.modBoxes (fun b => { b with fault := rest })).faultTaken
  | _ => .next s

/-- FAULT_CLEARED (R99). -/
def execFaultCleared (s : State) : Host.Outcome State Fault Refusal :=
  match s.boxes.fault with
  | false :: rest =>
    .next ((s.modBoxes (fun b => { b with fault := rest })).modAcq (fun a => { a with fault := false }))
  | _ => .next s

/-- FE_CLASS_CHANGE (R95). -/
def execFeClassChange (s : State) : Host.Outcome State Fault Refusal := .next (s.acqTake SetupAnn.isFe)

/-- ACQ_CLASS_CHANGE (R96, R94). -/
def execAcqClassChange (s : State) : Host.Outcome State Fault Refusal := .next (s.acqTake SetupAnn.isAcq)

/-- R121: the Record Ring takes the oldest GEOM announcement that waits for it. -/
def State.ringTake (s : State) : State :=
  match s.boxes.ring with
  | _ :: rest => (s.modBoxes (fun b => { b with ring := rest })).geomCheck
  | [] => s

/-- GEOM_CLASS_CHANGE (R97, R121): the ring and the engine in the given order, or one of them alone. -/
def execGeomClassChange (order : GeomOrder) (s : State) : Host.Outcome State Fault Refusal :=
  match order with
  | .ringFirst => .next (s.ringTake.acqTake SetupAnn.isGeom)
  | .engineFirst => .next (s.acqTake SetupAnn.isGeom).ringTake
  | .ringOnly => .next s.ringTake
  | .engineOnly => .next (s.acqTake SetupAnn.isGeom)

/-- TRIG_CLASS_CHANGE (R98). -/
def execTrigClassChange (s : State) : Host.Outcome State Fault Refusal := .next (s.acqTake SetupAnn.isTrig)

/-! ### Samples, intervals, timers -/

/-- SAMPLE (R59, R74, R80 to R84, R86, R100): the samples of one nanosecond, after which that nanosecond has passed. An offer
of a slot that still waits on its way reaches the engine before them (R109, log entry 40). -/
def execSample (r1 r2 r3 r4 : RawCode) (ext : Bool) (s : State) : Host.Outcome State Fault Refusal :=
  let raw : Vector RawCode 4 := #v[r1, r2, r3, r4]
  let s1 := (s.takeOffer.flushInterval.compare raw ext).decimate raw
  .next (s1.modPins (fun p => { p with ext := ext })).tick

/-- INTERVAL_COMPLETE (R80, R81, R85). -/
def execIntervalComplete (s : State) : Host.Outcome State Fault Refusal := .next s.flushInterval

/-- CAPTURE_COMPLETE (R89, R90): with the gate closed the record waits in COMMIT_WAIT; a deferred reload is made. A commit
waits while a change that ends the capture is on its way (log entry 10). -/
def execCaptureComplete (measFirst dispFirst : Bool) (s : State) : Host.Outcome State Fault Refusal :=
  let s1 := s.flushInterval
  match s1.acq.st, s1.acq.cap with
  | .postFill, some c =>
    if c.complete then
      if s1.gateShutNow then .next (s1.reloadIfDeferred.setAcqSt .commitWait)
      else if s1.mayCommit then .next (s1.reloadIfDeferred.commitCapture c measFirst dispFirst)
      else .next s1
    else .next s1
  | _, _ => .next s1

/-- HOLDOFF_EXPIRY (R85). -/
def execHoldoffExpiry (s : State) : Host.Outcome State Fault Refusal :=
  match s.acq.holdoffEnd with
  | some t => .next ((s.advanceTo t).modAcq (fun a => { a with holdoffEnd := none })).testArmed
  | none => .next s

/-- AUTO_TIMER_EXPIRY (R87, R86). -/
def execAutoTimerExpiry (s : State) : Host.Outcome State Fault Refusal :=
  match s.acq.st, s.acq.cap, s.acq.autoEnd with
  | .armed, some c, some t => .next ((s.advanceTo t).acceptTrigger c .auto false)
  | _, _, _ => .next s

/-- RATE_GATE_END (R100). -/
def execRateGateEnd (s : State) : Host.Outcome State Fault Refusal :=
  match s.acq.gateEnd with
  | some t =>
    .next ((s.advanceTo t).modAcq (fun a =>
      { a with rateHeld := some a.rateCount, rateCount := 0, gateEnd := some (t + gateNs) }))
  | none => .next s

/-! ### Requests -/

/-- R92: the answer to RUN. Its ACQ_STATE is offered before the reply is queued, as those of STOP and SINGLE are (log
entry 38). -/
def ownRun (_ : List Byte) (s : State) : Answer × State :=
  if s.runRefused then (.reply .notNow [], s) else (ansOk, s.runAs .run .request)

/-- RUN (R92). -/
def execRun (tag : Byte) (payload : List Byte) (s : State) : Host.Outcome State Fault Refusal :=
  request 0x28 (len 0) ownRun tag payload s

/-- R93: the answer to STOP. -/
def ownStop (_ : List Byte) (s : State) : Answer × State := (ansOk, s.stopAcq .stop .request)

/-- STOP (R93). -/
def execStop (tag : Byte) (payload : List Byte) (s : State) : Host.Outcome State Fault Refusal :=
  request 0x29 (len 0) ownStop tag payload s

/-- R92: the answer to SINGLE. -/
def ownSingle (_ : List Byte) (s : State) : Answer × State :=
  if s.runRefused then (.reply .notNow [], s) else (ansOk, s.runAs .single .request)

/-- SINGLE (R92). -/
def execSingle (tag : Byte) (payload : List Byte) (s : State) : Host.Outcome State Fault Refusal :=
  request 0x2A (len 0) ownSingle tag payload s

/-- R88: the answer to FORCE_TRIGGER. -/
def ownForce (_ : List Byte) (s : State) : Answer × State :=
  match s.force with
  | (true, s1) => (ansOk, s1)
  | (false, s1) => (.reply .notNow [], s1)

/-- FORCE_TRIGGER (R88). -/
def execForceTrigger (tag : Byte) (payload : List Byte) (s : State) : Host.Outcome State Fault Refusal :=
  request 0x2B (len 0) ownForce tag payload s

/-- The last trigger in GET_ACQ_STATUS's reply: presence, time, cause (Table 57). -/
def lastTrigBytes : Option LastTrig → List Byte
  | none => one 0 ++ leBytes 8 0 ++ one 0
  | some l => one 1 ++ leBytes 8 l.time ++ one l.cause.code

/-- R104: the answer to GET_ACQ_STATUS. -/
def ownGetAcqStatus (_ : List Byte) (s : State) : Status × List Byte :=
  let a := s.acq
  (.ok, one a.st.code ++ one a.mode.code ++ [flagByte a.fault, flagByte a.pendingForce, flagByte a.rateHeld.isSome] ++
    leBytes 4 (a.rateHeld.getD 0) ++ leBytes 8 s.timeBase ++ [flagByte a.cap.isSome] ++
    leBytes 2 ((a.cap.map (·.gen)).getD 0) ++ lastTrigBytes a.lastTrig ++
    leBytes 4 a.discSetup ++ leBytes 4 a.discStop ++ leBytes 4 a.discFail ++ leBytes 4 a.discFault)

/-- GET_ACQ_STATUS (R104). -/
def execGetAcqStatus (tag : Byte) (payload : List Byte) (s : State) : Host.Outcome State Fault Refusal :=
  request 0x2C (len 0) (readOnly ownGetAcqStatus) tag payload s

/-! ### Announcements of the Measurement Unit and the Record Ring -/

/-- FAIL_STOP (R91). -/
def execFailStop (s : State) : Host.Outcome State Fault Refusal :=
  if 0 < s.boxes.failStops then
    .next ((s.modBoxes (fun b => { b with failStops := b.failStops - 1 })).stopAcq .fail .failStop)
  else .next s

/-- GATE_OPENED (R138, R91): a record that waits in COMMIT_WAIT is committed while the gate is open (log entry 10). -/
def execGateOpened (measFirst dispFirst : Bool) (s : State) : Host.Outcome State Fault Refusal :=
  if 0 < s.boxes.gateOpens then
    let s1 := s.modBoxes (fun b => { b with gateOpens := b.gateOpens - 1 })
    match s1.acq.st, s1.acq.cap with
    | .commitWait, some c =>
      if s1.gateShutNow then .next s1
      else if s1.mayCommit then .next (s1.commitCapture c measFirst dispFirst)
      else .next s
    | _, _ => .next s1
  else .next s

/-- REBUILD_ANNOUNCEMENT (R122, R78). In PAUSED_GEOMETRY it answers the claim that waits for the rebuild. -/
def execRebuildAnnouncement (s : State) : Host.Outcome State Fault Refusal :=
  if 0 < s.boxes.rebuilds then
    let s1 := s.modBoxes (fun b => { b with rebuilds := b.rebuilds - 1 })
    .next (if s1.acq.st = .pausedGeometry then (s1.modRing (fun r => { r with waitRebuild := false })).startCapture
      else s1)
  else .next s

end Sys2Proof.Machine
end

