-- ==== Sys2Proof/Machine/RingMeanings.lean ====
section
/-! DEFINITION. The meanings of the Record Ring's requests (chapter 6, Table 52 codes 30h to 34h). -/

namespace Sys2Proof.Machine

/-- R115: the record that a HOLD_RECORD names; 0 means NEWEST. -/
def Ring.named (r : Ring) (n : Nat) : Option Record := if n = 0 then r.newest else r.find n

/-- R115: the answer to HOLD_RECORD. -/
def ownHoldRecord (p : List Byte) (s : State) : Answer × State :=
  if s.ring.lock1.isSome && s.ring.lock2.isSome then (.reply .noSlot [], s)
  else
    match s.ring.named (argU p 0 4) with
    | none => (.reply .empty [], s)
    | some x =>
      if s.ring.lock1 = none then
        (.reply .ok (one 1 ++ headerBytes x), s.modRing (fun r => { r with lock1 := some x.number }))
      else (.reply .ok (one 2 ++ headerBytes x), s.modRing (fun r => { r with lock2 := some x.number }))

/-- HOLD_RECORD (R115). -/
def execHoldRecord (tag : Byte) (payload : List Byte) (s : State) : Host.Outcome State Fault Refusal :=
  request 0x30 (len 4) ownHoldRecord tag payload s

/-- The entry of a lock id 1 or 2. -/
def Ring.lock (r : Ring) (k : Nat) : Option Nat := if k = 1 then r.lock1 else r.lock2

/-- The largest count of one READ_POINTS reply (R116). -/
def maxServed (mode : Int) : Nat := if mode = 1 then 120 else 240

/-- R116 and R112: the reply that serves `n` points of a channel from an index. -/
def servedPoints (x : Record) (c : Fin 4) (start n : Nat) : List Byte :=
  one (c.val + 1) ++ leBytes 4 start ++ leBytes 2 n ++
    ((x.points.drop start).take n).flatMap (fun q => pointBytes x.geom.w q[c])

/-- R116: the answer to READ_POINTS. -/
def ownReadPoints (p : List Byte) (s : State) : Status × List Byte :=
  let k := argU p 0 1
  let start := argU p 2 4
  if k < 1 ∨ 2 < k then (.badValue, [])
  else
    match s.ring.lock k with
    | none => (.empty, [])
    | some m =>
      match channelArg (argU p 1 1), s.ring.find m with
      | some c, some x =>
        if x.chans[c].on = false then (.empty, [])
        else if x.geom.leff ≤ start then (.badValue, [])
        else (.ok, servedPoints x c start (min (argU p 6 2) (min (maxServed x.mode) (x.geom.leff - start))))
      | none, _ => (.badValue, [])
      | some _, none => (.empty, [])

/-- READ_POINTS (R116). -/
def execReadPoints (tag : Byte) (payload : List Byte) (s : State) : Host.Outcome State Fault Refusal :=
  request 0x31 (len 8) (readOnly ownReadPoints) tag payload s

/-- R117: the answer to RELEASE_RECORD. -/
def ownReleaseRecord (offerWaits : Bool) (p : List Byte) (s : State) : Answer × State :=
  let k := argU p 0 1
  if k < 1 ∨ 2 < k then (.reply .badValue [], s)
  else
    match s.ring.lock k with
    | none => (.reply .empty [], s)
    | some m =>
      (ansOk, (s.modRing (fun r =>
        if k = 1 then { r with lock1 := none } else { r with lock2 := none })).afterRelease m offerWaits)

/-- RELEASE_RECORD (R117). `release.offerWaits`: a withdrawal of the claim falls together with the release, and the release is
taken first (R109, log entry 40). -/
def execReleaseRecord (tag : Byte) (release : Release) (s : State) : Host.Outcome State Fault Refusal :=
  request 0x32 (len 1) (ownReleaseRecord release.offerWaits) tag release.payload s

/-- One entry of LIST_RECORDS's page (R118). -/
def Ring.entryBytes (r : Ring) (x : Record) : List Byte :=
  leBytes 4 x.number ++ leBytes 8 x.trigTime ++ one x.cause.code ++ [flagByte (r.locked x.number)]

/-- R118: the answer to LIST_RECORDS. -/
def ownListRecords (p : List Byte) (s : State) : Status × List Byte :=
  let r := s.ring
  let page := (r.order.drop (argU p 0 2)).take 32
  (.ok, one r.cap ++ leBytes 4 r.leff ++ one r.w ++ [flagByte r.geomPending] ++ one r.order.length ++
    [flagByte r.filling] ++ leBytes 4 r.counter ++ recordBytes r.lock1 ++ recordBytes r.lock2 ++ recordBytes r.pin ++
    one page.length ++ page.flatMap r.entryBytes)

/-- LIST_RECORDS (R118). -/
def execListRecords (tag : Byte) (payload : List Byte) (s : State) : Host.Outcome State Fault Refusal :=
  request 0x33 (len 2) (readOnly ownListRecords) tag payload s

/-- R119: the answer to CLEAR. -/
def ownClear (_ : List Byte) (s : State) : Answer × State := (ansOk, s.clearRing)

/-- CLEAR (R119). -/
def execClear (tag : Byte) (payload : List Byte) (s : State) : Host.Outcome State Fault Refusal :=
  request 0x34 (len 0) ownClear tag payload s

end Sys2Proof.Machine
end

