-- ==== Sys2Proof/Machine/MeasurementMeanings.lean ====
section
/-! DEFINITION. The meanings of the Measurement Unit's announcements, events and requests (chapter 7, Table 52 codes 38h to
3Bh). -/

namespace Sys2Proof.Machine

/-- MEAS_COMMIT_TAKEN (R125): the oldest of the ring's announcements is taken when it is a commit. -/
def execMeasCommitTaken (s : State) : Host.Outcome State Fault Refusal := .next s.measTakeCommit

/-- MEAS_RING_ANNOUNCEMENT (R125, R145): the oldest of the ring's announcements is taken when it is a discard, a clear or an
emptied announcement. -/
def execMeasRingAnnouncement (s : State) : Host.Outcome State Fault Refusal :=
  match s.boxes.measRing with
  | .commit _ :: _ => .next s
  | a :: rest => .next ((s.modBoxes (fun b => { b with measRing := rest })).measTakeRing a)
  | [] => .next s

/-- MEAS_CLASS_CHANGE (R128, R137, R140). -/
def execMeasClassChange (s : State) : Host.Outcome State Fault Refusal :=
  match s.boxes.meas with
  | a :: rest => .next ((s.modBoxes (fun b => { b with meas := rest })).measTakeSetup a)
  | [] => .next s

/-- EVALUATION_COMPLETE (R127, R134 to R136, R139, R141, R144). -/
def execEvaluationComplete (s : State) : Host.Outcome State Fault Refusal :=
  match s.meas.eval with
  | some e => .next (s.completeEval e)
  | none => .next s

/-- R141: the line at its timer's expiry. -/
def LineSt.expired : LineSt → LineSt
  | .assertPending => .asserted
  | .releasePending => .deasserted
  | l => l

/-- LIMIT_TIMER_EXPIRY (R141). -/
def execLimitTimerExpiry (s : State) : Host.Outcome State Fault Refusal :=
  match s.meas.lineEnd with
  | some t => .next ((s.advanceTo t).modMeas (fun m => { m with line := m.line.expired, lineEnd := none }))
  | none => .next s

/-- A value that may be absent, sent as 0 (R227). -/
def orZero (v : Option Int) : List Byte := leInt 8 (v.getD 0)

/-- One slot's part of GET_RESULTS (R143, Table 57). -/
def State.slotBytes (s : State) (m : Fin 6) : List Byte :=
  let r := s.meas.results[m]
  let t := s.meas.stats[m]
  let h := s.meas.hold[m]
  one (s.fld (idSlot m 0)).toNat ++ leInt 8 r.value ++ one r.status.code ++ [flagByte r.clipped] ++
    recordBytes r.record ++ one r.origin.code ++ leBytes 4 t.count ++ orZero (t.range.map (·.1)) ++
    orZero (t.range.map (·.2)) ++ leBytes 2 s.meas.failCount[m] ++ [flagByte h.isSome] ++
    orZero (h.map (·.value)) ++ [flagByte ((h.map (·.high)).getD false)] ++ recordBytes (h.map (·.record))

/-- R143: the answer to GET_RESULTS. -/
def ownGetResults (_ : List Byte) (s : State) : Status × List Byte :=
  let m := s.meas
  (.ok, (List.finRange 6).flatMap s.slotBytes ++ one m.devVerdict.code ++ one m.recVerdict.code ++
    leBytes 4 m.recVerdictOf ++ [flagByte m.eval.isSome] ++ recordBytes (m.eval.map (·.record)) ++
    one ((m.eval.map (·.kind.code)).getD 0) ++ leBytes 4 m.ns ++ leBytes 4 m.skipped ++ [flagByte m.reReq] ++
    [flagByte s.gateShutNow, flagByte m.failFlag] ++ one m.line.code ++ leBytes 2 (s.remaining ms m.lineEnd) ++
    one m.override.code ++ [flagByte s.lineLevel])

/-- GET_RESULTS (R143). -/
def execGetResults (tag : Byte) (payload : List Byte) (s : State) : Host.Outcome State Fault Refusal :=
  request 0x38 (len 0) (readOnly ownGetResults) tag payload s

/-- R143: the answer to CLEAR_STATS. -/
def ownClearStats (_ : List Byte) (s : State) : Answer × State :=
  (ansOk, s.modMeas (fun m => { m with stats := Vector.replicate 6 ⟨0, none⟩ }))

/-- CLEAR_STATS (R143). -/
def execClearStats (tag : Byte) (payload : List Byte) (s : State) : Host.Outcome State Fault Refusal :=
  request 0x39 (len 0) ownClearStats tag payload s

/-- R143: the answer to CLEAR_FAIL. Its LIMIT notice is offered before the reply is queued (log entry 38). -/
def ownClearFail (_ : List Byte) (s : State) : Answer × State :=
  let s1 := s.modMeas (fun m =>
    { m with
      failCount := Vector.replicate 6 0, hold := Vector.replicate 6 none, devVerdict := .none, recVerdict := .none
      line := .deasserted, lineEnd := none })
  (ansOk, if s.meas.devVerdict = .none then s1 else s1.offer (.limit .none 0 [] .deasserted))

/-- CLEAR_FAIL (R143). -/
def execClearFail (tag : Byte) (payload : List Byte) (s : State) : Host.Outcome State Fault Refusal :=
  request 0x3A (len 0) ownClearFail tag payload s

/-- The limit line override of a setting number (Table 56). -/
def lineOverrideOf (n : Nat) : Option LineOverride :=
  match n with
  | 0 => some .auto
  | 1 => some .forceTrue
  | 2 => some .forceFalse
  | _ => none

/-- R142: the answer to LIMIT_OUT. -/
def ownLimitOut (p : List Byte) (s : State) : Answer × State :=
  match lineOverrideOf (argU p 0 1) with
  | some o =>
    let s1 := s.modMeas (fun m => { m with override := o })
    (.reply .ok [flagByte s1.lineLevel], s1)
  | none => (.reply .badValue [], s)

/-- LIMIT_OUT (R142). -/
def execLimitOut (tag : Byte) (payload : List Byte) (s : State) : Host.Outcome State Fault Refusal :=
  request 0x3B (len 1) ownLimitOut tag payload s

end Sys2Proof.Machine
end

