-- ==== Sys2Proof/Machine/DisplayMeanings.lean ====
section
/-! DEFINITION. The meanings of the Waveform Display's events and requests (chapter 8, Table 52 codes 40h to 43h). -/

namespace Sys2Proof.Machine

/-- The moment of frame start number `k` after scan-out began: sixty a second (R146). -/
def frameDue (base k : Nat) : Nat := base + k * 1000000000 / 60

/-- R157: the decay step of a frame start: due while acquisition runs and PERSIST is SHORT or LONG. -/
def State.frameDecay (s : State) : State :=
  if s.stopped = false ∧ (s.fld idPersist = 1 ∨ s.fld idPersist = 2) then
    match s.disp.raster with
    | none => s.modDisp (fun d => { d with planes := decayPlanes (s.fld idPersist) d.planes })
    | some _ => s.modDisp (fun d => { d with decays := satAdd 255 d.decays 1 })
  else s

/-- FRAME_START (R146, R157, R168, R178, R179). -/
def execFrameStart (s : State) : Host.Outcome State Fault Refusal :=
  if s.disp.scanning then
    let s1 := (s.advanceTo (frameDue s.disp.frameBase s.disp.frameIx)).modDisp (fun d =>
      { d with frameIx := d.frameIx + 1 })
    .next (s1.frameDecay.modOv Overlay.frame)
  else .next s

/-- RASTER_COMMIT_TAKEN (R149, R160): the oldest of the ring's announcements is taken when it is a commit. -/
def execRasterCommitTaken (s : State) : Host.Outcome State Fault Refusal := .next s.dispTakeCommit

/-- RASTER_COMPLETE (R151). -/
def execRasterComplete (s : State) : Host.Outcome State Fault Refusal :=
  match s.disp.raster with
  | some r => .next (s.rasterDone r)
  | none => .next s

/-- DISPLAY_SETUP_ANNOUNCEMENT (R159). -/
def execDisplaySetupAnnouncement (s : State) : Host.Outcome State Fault Refusal :=
  match s.boxes.disp with
  | a :: rest => .next ((s.modBoxes (fun b => { b with disp := rest })).dispApply a)
  | [] => .next s

/-- DISPLAY_RING_ANNOUNCEMENT (R160): the oldest of the ring's announcements is taken when it is not a commit. -/
def execDisplayRingAnnouncement (s : State) : Host.Outcome State Fault Refusal :=
  match s.boxes.dispRing with
  | .commit _ :: _ => .next s
  | a :: rest => .next ((s.modBoxes (fun b => { b with dispRing := rest })).dispRingApply a)
  | [] => .next s

/-- R158: the answer to SHOW_RECORD. -/
def ownShowRecord (p : List Byte) (s : State) : Answer × State :=
  let n := argU p 0 4
  if s.stopped then
    if n ≠ 0 ∧ s.ring.find n = none then (.reply .empty [], s)
    else
      (ansOk, ((s.modDisp (fun d => { d with sel := if n = 0 then none else some n })).requestRedraw).requestReEval)
  else (.reply .notNow [], s)

/-- SHOW_RECORD (R158). -/
def execShowRecord (tag : Byte) (payload : List Byte) (s : State) : Host.Outcome State Fault Refusal :=
  request 0x40 (len 4) ownShowRecord tag payload s

/-- R164: the time of a column, in ps. -/
def State.cursorTime (s : State) (col : Int) : Int :=
  (col - s.fld idHpos / 2) * (tdivOf (s.fld idTdiv) : Int) * 20

/-- R164: the voltage of a row on a channel, in µV. -/
def State.cursorVolt (s : State) (c : Fin 4) (row : Int) : Int :=
  roundDiv ((200 - row - s.fld (idPos c)) * (vdivOf (s.fld (idVdiv c)) : Int)) 50

/-- The items of CURSOR_READ's reply (Table 57). -/
def cursorBytes (mode src : Nat) (a b d : Int) (r : Option Int) : List Byte :=
  one mode ++ one src ++ leInt 8 a ++ leInt 8 b ++ leInt 8 d ++ [flagByte r.isSome] ++ leInt 8 (r.getD 0)

/-- R164: the answer to CURSOR_READ. -/
def ownCursorRead (_ : List Byte) (s : State) : Status × List Byte :=
  if s.fld idCursor = 1 then
    let a := s.cursorTime (s.fld idTcurA)
    let b := s.cursorTime (s.fld idTcurB)
    (.ok, cursorBytes 1 0 a b (b - a) (if b - a = 0 then none else some (roundDiv 1000000000000000 (b - a))))
  else if s.fld idCursor = 2 then
    match chanOf (s.fld idCursrc) with
    | some c =>
      let a := s.cursorVolt c (s.fld idVcurA)
      let b := s.cursorVolt c (s.fld idVcurB)
      (.ok, cursorBytes 2 c.val a b (a - b) none)
    | none => (.ok, cursorBytes 2 0 0 0 0 none)
  else (.ok, cursorBytes 0 0 0 0 0 none)

/-- CURSOR_READ (R164). -/
def execCursorRead (tag : Byte) (payload : List Byte) (s : State) : Host.Outcome State Fault Refusal :=
  request 0x41 (len 0) (readOnly ownCursorRead) tag payload s

/-- R166: the answer to CLEAR_DISPLAY. That an abandoned rasterisation is followed by its scheduling point (R149, R152) while
STOPPED too is DESIGN CHOICE (log entry 43). -/
def ownClearDisplay (_ : List Byte) (s : State) : Answer × State :=
  (ansOk, s.abandonThen (fun t => t.clearPlanes.modDisp (fun d => { d with decays := 0 })))

/-- CLEAR_DISPLAY (R166). -/
def execClearDisplay (tag : Byte) (payload : List Byte) (s : State) : Host.Outcome State Fault Refusal :=
  request 0x42 (len 0) ownClearDisplay tag payload s

/-- R166: the answer to GET_DISPLAY_STATUS. -/
def ownGetDisplayStatus (_ : List Byte) (s : State) : Status × List Byte :=
  let d := s.disp
  (.ok, recordBytes d.sel ++ [flagByte d.raster.isSome] ++ recordBytes (d.raster.map (·.record)) ++
    one ((d.raster.map (·.kind.code)).getD 0) ++ leBytes 4 d.nd ++ leBytes 4 d.passed ++ [flagByte d.redraw] ++
    one d.decays ++ [flagByte d.scanning])

/-- GET_DISPLAY_STATUS (R166). -/
def execGetDisplayStatus (tag : Byte) (payload : List Byte) (s : State) : Host.Outcome State Fault Refusal :=
  request 0x43 (len 0) (readOnly ownGetDisplayStatus) tag payload s

end Sys2Proof.Machine
end

