-- ==== Sys2Proof/Machine/OverlayMeanings.lean ====
section
/-! DEFINITION. The meanings of the Overlay Drawer's events and requests (chapter 9, Table 52 codes 48h to 4Ah). -/

namespace Sys2Proof.Machine

/-- R172: the answer to DRAW. -/
def ownDraw (p : List Byte) (s : State) : Answer × State :=
  match drawSplit (p.length + 1) 1 p with
  | .error n => (.reply .badLength (leBytes 2 n), s)
  | .ok pieces =>
    match drawReadAll 1 pieces with
    | .error n => (.reply .badValue (leBytes 2 n), s)
    | .ok rs =>
      if 32 < s.ov.queue.length + rs.length then (.reply .queueFull [], s)
      else
        let s1 := s.modOv (fun o => o.append rs)
        (.reply .ok (one rs.length ++ one s1.ov.queue.length), s1)

/-- The lengths 1..512 of DRAW (Table 52). -/
def drawLen (k : Nat) : Bool := decide (1 ≤ k ∧ k ≤ 512)

/-- DRAW (R172). -/
def execDraw (tag : Byte) (payload : List Byte) (s : State) : Host.Outcome State Fault Refusal :=
  request 0x48 drawLen ownDraw tag payload s

/-- DRAW_RECORD_COMPLETE (R173 to R177). -/
def execDrawRecordComplete (s : State) : Host.Outcome State Fault Refusal :=
  match s.ov.st, s.ov.queue with
  | .drawing, r :: _ => .next (s.modOv (fun o => o.finish r))
  | _, _ => .next s

/-- PRESENT_COPY_COMPLETE (R178). -/
def execPresentCopyComplete (s : State) : Host.Outcome State Fault Refusal :=
  match s.ov.st with
  | .copying =>
    let s1 := s.modOv Overlay.copied
    .next (s1.offer (.presented s1.ov.presents))
  | _ => .next s

/-- R170: the answer to SET_PALETTE. -/
def ownSetPalette (p : List Byte) (s : State) : Answer × State :=
  let first := argU p 0 1
  let l := coloursOf (p.drop 1)
  if l.isEmpty then (ansOk, s.modOv (fun o => { o with palette := defaultPalette }))
  else if 256 < first + l.length then (.reply .badValue [], s)
  else (ansOk, s.modOv (fun o => { o with palette := setPalette o.palette first l }))

/-- The lengths 1 + 3k, k = 0..170, of SET_PALETTE (Table 52). -/
def paletteLen (k : Nat) : Bool := decide (1 ≤ k ∧ k ≤ 511 ∧ k % 3 = 1)

/-- SET_PALETTE (R170). -/
def execSetPalette (tag : Byte) (payload : List Byte) (s : State) : Host.Outcome State Fault Refusal :=
  request 0x49 paletteLen ownSetPalette tag payload s

/-- R180: the answer to GET_OVERLAY_STATUS. -/
def ownGetOverlayStatus (_ : List Byte) (s : State) : Status × List Byte :=
  let o := s.ov
  (.ok, one o.st.code ++ one (if o.st = .idle then 0 else (o.queue.head?.map (·.code)).getD 0) ++
    one o.queue.length ++ one (32 - o.queue.length) ++ [flagByte o.frontB] ++ leBytes 2 o.presents ++
    leBytes 4 o.dropped)

/-- GET_OVERLAY_STATUS (R180). -/
def execGetOverlayStatus (tag : Byte) (payload : List Byte) (s : State) : Host.Outcome State Fault Refusal :=
  request 0x4A (len 0) (readOnly ownGetOverlayStatus) tag payload s

end Sys2Proof.Machine
end

