-- ==== Sys2Proof/Machine/StoreMeanings.lean ====
section
/-! DEFINITION. The meanings of the Setup Store's requests and events (chapter 10, Table 52 codes 50h to 55h). -/

namespace Sys2Proof.Machine

/-- The slot that a number names. -/
def slotArg (n : Nat) : Option (Fin 17) := if h : n < 17 then some ⟨n, h⟩ else none

/-- A user slot 1..16. -/
def userSlotArg (n : Nat) : Option (Fin 17) := if n = 0 then none else slotArg n

/-- R185: whether a name code is kept as it is. -/
def printable (b : Byte) : Bool := decide (32 ≤ b.toNat ∧ b.toNat ≤ 126)

/-- R185: the stored name: the first 16 codes, each outside 32..126 replaced with "?". -/
def storedName (codes : List Byte) : List Byte := (codes.take 16).map (fun b => if printable b then b else 63)

/-- R184, R185: the answer to SAVE. -/
def ownSave (p : List Byte) (s : State) : Answer × State :=
  let codes := p.drop 1
  if s.storeUnready then (.reply .notNow [], s)
  else
    match userSlotArg (argU p 0 1) with
    | none => (.reply .badValue [], s)
    | some i =>
      if s.storeOccupied then (.reply .busy [], s)
      else
        (.accepted, s.beginOp (.save i (storedName codes) s.setup.live (satAdd top32 s.store.dir[i].count 1)
          s.setup.gen (decide (storedName codes ≠ codes))))

/-- The lengths 1..65 of SAVE (Table 52). -/
def saveLen (k : Nat) : Bool := decide (1 ≤ k ∧ k ≤ 65)

/-- SAVE (R185). -/
def execSave (tag : Byte) (payload : List Byte) (s : State) : Host.Outcome State Fault Refusal :=
  request 0x50 saveLen ownSave tag payload s

/-- R187: a slot that a RECALL finds no longer VALID corrects the directory. -/
def State.correctDir (s : State) (i : Fin 17) (e : DirEntry) : State :=
  s.modStore (fun t => { t with dir := t.dir.set i e })

/-- R184, R186, R187: the answer to RECALL. -/
def ownRecall (p : List Byte) (s : State) : Answer × State :=
  if s.storeUnready then (.reply .notNow [], s)
  else
    match slotArg (argU p 0 1) with
    | none => (.reply .badValue [], s)
    | some i =>
      if s.storeOccupied then (.reply .busy [], s)
      else
        match s.store.dir[i].cls, s.store.slots[i] with
        | .erased, _ => (.reply .empty [], s)
        | .corrupt, _ => (.reply .corrupt [], s)
        | .valid, .corrupt => (.reply .corrupt [], s.correctDir i ⟨.corrupt, [], 0⟩)
        | .valid, .erased => (.reply .empty [], s.correctDir i ⟨.erased, [], 0⟩)
        | .valid, .valid _ vals _ =>
          let s1 := s.replaceSetup (adjustAll vals) .recall .normal
          (.reply (if adjustAll vals = vals then .ok else .clamped) (one i.val ++ leBytes 2 s1.setup.gen), s1)

/-- RECALL (R186). -/
def execRecall (tag : Byte) (payload : List Byte) (s : State) : Host.Outcome State Fault Refusal :=
  request 0x51 (len 1) ownRecall tag payload s

/-- R184, R188: the answer to ERASE. -/
def ownErase (p : List Byte) (s : State) : Answer × State :=
  if s.storeUnready then (.reply .notNow [], s)
  else
    match userSlotArg (argU p 0 1) with
    | none => (.reply .badValue [], s)
    | some i => if s.storeOccupied then (.reply .busy [], s) else (.accepted, s.beginOp (.erase i))

/-- ERASE (R188). -/
def execErase (tag : Byte) (payload : List Byte) (s : State) : Host.Outcome State Fault Refusal :=
  request 0x52 (len 1) ownErase tag payload s

/-- The store state, operation and slot or entry items of LIST_SLOTS (Tables 57 and 58). -/
def StoreSt.bytes : StoreSt → List Byte
  | .idle => one 0 ++ one 0 ++ one 0
  | .loading => one 1 ++ one 0 ++ one 0
  | .writing (.save i _ _ _ _ _) _ => one 2 ++ one 1 ++ one i.val
  | .writing (.erase i) _ => one 2 ++ one 2 ++ one i.val
  | .writing (.calWrite e _ _) _ => one 2 ++ one 3 ++ one e.val
  | .writing (.last _ _) _ => one 2 ++ one 4 ++ one 0

/-- One directory entry of LIST_SLOTS: the name filled with 0s to 16 bytes. -/
def DirEntry.bytes (i : Fin 17) (d : DirEntry) : List Byte :=
  one i.val ++ one d.cls.code ++ one d.name.length ++ (d.name ++ List.replicate 16 0).take 16 ++ leBytes 4 d.count

/-- R189: the answer to LIST_SLOTS. -/
def ownListSlots (_ : List Byte) (s : State) : Status × List Byte :=
  if s.storeUnready then (.notNow, [])
  else
    (.ok, s.store.st.bytes ++ [flagByte s.store.lastPending] ++
      (List.finRange 17).flatMap (fun i => DirEntry.bytes i s.store.dir[i]))

/-- LIST_SLOTS (R189). -/
def execListSlots (tag : Byte) (payload : List Byte) (s : State) : Host.Outcome State Fault Refusal :=
  request 0x53 (len 0) (readOnly ownListSlots) tag payload s

/-- R68: the entry that a channel 1..4 and a range 0..12 name. -/
def calArg (ch k : Nat) : Option (Fin 52) :=
  if h : 1 ≤ ch ∧ ch ≤ 4 ∧ k ≤ 12 then some ⟨13 * (ch - 1) + k, by omega⟩ else none

/-- R192: the answer to CAL_WRITE. -/
def ownCalWrite (p : List Byte) (s : State) : Answer × State :=
  let g : Int := argU p 2 2
  let o := argS p 4 1
  if s.storeUnready then (.reply .notNow [], s)
  else if s.pins.straps.factory = false then (.reply .notNow [], s)
  else
    match calArg (argU p 0 1) (argU p 1 1) with
    | none => (.reply .badValue [], s)
    | some e =>
      if ¬(14746 ≤ g ∧ g ≤ 18022 ∧ -64 ≤ o ∧ o ≤ 63) then (.reply .badValue [], s)
      else if s.storeOccupied then (.reply .busy [], s)
      else if s.store.calRam[e] ≠ .unwritten then (.reply .writeOnce [], s)
      else (.accepted, s.beginOp (.calWrite e g o))

/-- CAL_WRITE (R192). -/
def execCalWrite (tag : Byte) (payload : List Byte) (s : State) : Host.Outcome State Fault Refusal :=
  request 0x54 (len 5) ownCalWrite tag payload s

/-- R193: the answer to CAL_READ. NOT_NOW comes before BAD_VALUE (log entry 20). -/
def ownCalRead (p : List Byte) (s : State) : Status × List Byte :=
  if s.storeUnready then (.notNow, [])
  else
    match calArg (argU p 0 1) (argU p 1 1) with
    | none => (.badValue, [])
    | some e =>
      let c := s.store.calRam[e]
      (.ok, one (argU p 0 1) ++ one (argU p 1 1) ++ one c.code ++ leInt 2 (calEntryOf c).g ++ leInt 1 (calEntryOf c).o)

/-- CAL_READ (R193). -/
def execCalRead (tag : Byte) (payload : List Byte) (s : State) : Host.Outcome State Fault Refusal :=
  request 0x55 (len 2) (readOnly ownCalRead) tag payload s

/-- An operation is a LAST write. -/
def StoreOp.isLast : StoreOp → Bool
  | .last _ _ => true
  | _ => false

/-- STORE_WRITE_COMPLETE (R184, R195, R201): the completion of a LAST write is reported to the Power Controller, unless a
LAST write of a later shutdown waits behind it. -/
def execStoreWriteComplete (s : State) : Host.Outcome State Fault Refusal :=
  match s.store.st with
  | .writing op t =>
    let s1 := (s.advanceTo t).storeDone op
    .next (if op.isLast && !s.store.lastPending then s1.lastReport else s1)
  | _ => .next s

/-- LOAD_COMPLETE (R194, R197, R198): the load whole, but for steps 1 to 3 where a RESET came after them (R203). -/
def execLoadComplete (s : State) : Host.Outcome State Fault Refusal :=
  match s.store.st with
  | .loading => .next s.load.loadReport
  | _ => .next s

end Sys2Proof.Machine
end

