-- ==== Sys2Proof/Machine/PowerMeanings.lean ====
section
/-! DEFINITION. The meanings of the supply reset, the Power Controller's timers and its requests (chapter 11, Table 52 codes
58h and 59h). -/

namespace Sys2Proof.Machine

/-- SUPPLY_RESET (R5, R196, R190). -/
def execSupplyReset (straps : Straps) (s : State) : Host.Outcome State Fault Refusal := .next (s.supplyReset straps)

/-- HOLD_TIMER_EXPIRY (R200). -/
def execHoldTimerExpiry (s : State) : Host.Outcome State Fault Refusal :=
  match s.power.st, s.power.holdEnd with
  | .on, some t => .next (s.advanceTo t).forcedStandby
  | _, _ => .next s

/-- R201: the answer to STANDBY. -/
def ownStandby (_ : List Byte) (s : State) : Answer × State :=
  match s.power.st with
  | .on => (.accepted, s.beginShutdown)
  | .shuttingDown => (.reply .busy [], s)
  | _ => (.reply .notNow [], s)

/-- STANDBY (R201). -/
def execStandby (tag : Byte) (payload : List Byte) (s : State) : Host.Outcome State Fault Refusal :=
  request 0x58 (len 0) ownStandby tag payload s

/-- GRACE_TIMER_EXPIRY (R201, R204). -/
def execGraceTimerExpiry (s : State) : Host.Outcome State Fault Refusal :=
  match s.power.graceEnd with
  | some t => .next (s.advanceTo t).standbyEntry
  | none => .next s

/-- The step item of GET_POWER (Table 58). -/
def Power.stepCode (p : Power) : Nat :=
  match p.st with
  | .poweringUp => if p.upStep = .feWait then 1 else 2
  | .shuttingDown => if p.downStep = .lastWrite then 3 else 4
  | _ => 0

/-- R205: the answer to GET_POWER. -/
def ownGetPower (_ : List Byte) (s : State) : Status × List Byte :=
  let p := s.power
  (.ok, one p.st.code ++ one p.cause.code ++ one p.stepCode ++ [flagByte s.panel.keys[(0 : Fin 64)].down] ++
    leBytes 2 (s.remaining ms p.holdEnd) ++ leBytes 2 (s.remaining ms p.graceEnd) ++
    [flagByte s.pins.straps.autoOn, flagByte s.pins.straps.factory])

/-- GET_POWER (R205). -/
def execGetPower (tag : Byte) (payload : List Byte) (s : State) : Host.Outcome State Fault Refusal :=
  request 0x59 (len 0) (readOnly ownGetPower) tag payload s

end Sys2Proof.Machine
end

