-- ==== Sys2Proof/Machine/LinkMeanings.lean ====
section
/-! DEFINITION. The meanings of the Link Interface's events and requests (chapter 12, Table 52 codes 60h to 63h). -/

namespace Sys2Proof.Machine

/-! ### The receiver -/

/-- What byte `b` would make of the frame in progress; outside a frame it completes and refuses none (R208, R209). -/
def State.rxClass (s : State) (b : Byte) : RxOut :=
  match s.link.rx with
  | .inFrame bs => rxTest (bs ++ [b])
  | _ => .keep

/-- FRAME_RECEIVED (R208, R211): `b` arrives and completes a good frame. -/
def execFrameReceived (b : Byte) (s : State) : Host.Outcome State Fault Refusal :=
  match s.rxClass b with
  | .good _ => .next (s.receive b)
  | _ => .next s

/-- FRAME_REFUSED (R209): `b` arrives and the frame in progress is refused at it. -/
def execFrameRefused (b : Byte) (s : State) : Host.Outcome State Fault Refusal :=
  match s.rxClass b with
  | .refused _ => .next (s.receive b)
  | _ => .next s

/-- RECEIVED_BYTE (R208): `b` arrives and is kept, starts a frame or is discarded. -/
def execReceivedByte (b : Byte) (s : State) : Host.Outcome State Fault Refusal :=
  match s.rxClass b with
  | .keep => .next (s.receive b)
  | _ => .next s

/-- INTER_BYTE_TIMEOUT (R208, R209). -/
def execInterByteTimeout (s : State) : Host.Outcome State Fault Refusal :=
  match s.link.rx, s.link.byteEnd with
  | .inFrame bs, some t => .next ((s.advanceTo t).byteTimeout bs)
  | _, _ => .next s

/-- BREAK_DETECTED (R210). -/
def execBreakDetected (s : State) : Host.Outcome State Fault Refusal :=
  if s.link.up ∧ s.link.rx ≠ .brk then .next (s.modLink Link.breakStart) else .next s

/-- BREAK_END (R210). -/
def execBreakEnd (s : State) : Host.Outcome State Fault Refusal :=
  match s.link.rx with
  | .brk => .next ((s.modLink (fun l => { l with rx := .hunt })).offer (.linkError .brk none))
  | _ => .next s

/-! ### Dispatch of unknown codes, transmission, key notices -/

/-- The codes of Table 52. -/
def requestCodes : List Nat :=
  [0x01, 0x02, 0x03, 0x04, 0x05, 0x06, 0x07, 0x10, 0x11, 0x12, 0x13, 0x14, 0x15, 0x16, 0x17, 0x18, 0x20, 0x28, 0x29,
    0x2A, 0x2B, 0x2C, 0x30, 0x31, 0x32, 0x33, 0x34, 0x38, 0x39, 0x3A, 0x3B, 0x40, 0x41, 0x42, 0x43, 0x48, 0x49, 0x4A,
    0x50, 0x51, 0x52, 0x53, 0x54, 0x55, 0x58, 0x59, 0x60, 0x61, 0x62, 0x63]

/-- The dispatcher's own answer to a code that names no request (R212). -/
def ownBadCode (_ : List Byte) (s : State) : Answer × State := (.reply .badCode [], s)

/-- DISPATCH_BAD_CODE (R212): of any payload length; a code that names a request is not such a frame. -/
def execDispatchBadCode (tag code : Byte) (payload : List Byte) (s : State) : Host.Outcome State Fault Refusal :=
  if requestCodes.contains code.toNat then .next s else request code (fun _ => true) ownBadCode tag payload s

/-- TRANSMIT_FRAME_END (R214, R215). -/
def execTransmitFrameEnd (s : State) : Host.Outcome State Fault Refusal :=
  match s.link.tx with
  | some t => .next (((s.advanceTo t.endAt).modLink (fun l => { l with tx := none })).kick)
  | none => .next s

/-- R216: the four conditions of a move, and an event to move. -/
def State.keyMoves (s : State) : Bool :=
  s.link.up && s.link.mask.getLsbD 0 && decide (s.link.notices.length < 32) && decide (s.link.lost = 0)

/-- KEY_NOTICE_MOVE (R216, R36). -/
def execKeyNoticeMove (s : State) : Host.Outcome State Fault Refusal :=
  match s.panel.queue with
  | ev :: rest =>
    if s.keyMoves then
      .next (((s.modPanel (fun p => { p with queue := rest })).modLink (fun l =>
        { l with notices := l.notices ++ [.key ev] })).kick)
    else .next s
  | [] => .next s

/-! ### Requests -/

/-- The mask's always-on bits: LINK_ERROR, POWER_KEY, NOTICES_LOST (R217, R222). -/
def alwaysOn : BitVec 16 := 0x0E00

/-- R217: the answer to SET_NOTICES. -/
def ownSetNotices (p : List Byte) (s : State) : Answer × State :=
  let m := argU p 0 2
  if 4096 ≤ m then (.reply .badValue [], s)
  else
    let s1 := s.modLink (fun l => { l with mask := BitVec.ofNat 16 m ||| alwaysOn })
    (.reply .ok (leBytes 2 s1.link.mask.toNat), s1)

/-- SET_NOTICES (R217). -/
def execSetNotices (tag : Byte) (payload : List Byte) (s : State) : Host.Outcome State Fault Refusal :=
  request 0x62 (len 2) ownSetNotices tag payload s

/-- The latched error set as a byte: bit k for the cause numbered k (Table 58). -/
def latchedByte (v : Vector Bool 6) : Byte :=
  byte ((List.finRange 6).map (fun k => if v[k] then 2 ^ k.val else 0)).sum

/-- R218: the answer to GET_STATUS. -/
def ownGetStatus (_ : List Byte) (s : State) : Status × List Byte :=
  let l := s.link
  (.ok, one s.power.st.code ++ one s.acq.st.code ++ [flagByte s.storeBusy] ++ one s.meas.devVerdict.code ++
    [latchedByte l.latched] ++ (List.finRange 6).flatMap (fun k => leBytes 2 l.errors[k]) ++ leBytes 2 l.lost ++
    leBytes 2 l.mask.toNat ++ one l.rxq.length ++ one l.replies.length ++ one l.reservations.length ++
    one l.notices.length ++ one s.topCondition)

/-- GET_STATUS (R218). -/
def execGetStatus (tag : Byte) (payload : List Byte) (s : State) : Host.Outcome State Fault Refusal :=
  request 0x60 (len 0) (readOnly ownGetStatus) tag payload s

/-- R218: the answer to CLEAR_LINK_ERRORS. -/
def ownClearLinkErrors (_ : List Byte) (s : State) : Answer × State :=
  (ansOk, s.modLink (fun l =>
    { l with latched := Vector.replicate 6 false, errors := Vector.replicate 6 0 }))

/-- CLEAR_LINK_ERRORS (R218). -/
def execClearLinkErrors (tag : Byte) (payload : List Byte) (s : State) : Host.Outcome State Fault Refusal :=
  request 0x61 (len 0) ownClearLinkErrors tag payload s

/-- RESET (R219): its own rule queues the reply. -/
def execReset (order : ResetOrder) (tag : Byte) (payload : List Byte) (s : State) : Host.Outcome State Fault Refusal :=
  request 0x63 (len 0) (fun _ t => (.done, t.resetAll tag order)) tag payload s

end Sys2Proof.Machine
end

