-- ==== Sys2Proof/Machine/Dispatch.lean ====
section
/-! DEFINITION. The meaning of every command, one arm for each row of spec/opcode_table.json. -/

namespace Sys2Proof.Machine

/-- The effect of a command on everything but the queue of commands. -/
def exec (i : Instr) (s : State) : Host.Outcome State Fault Refusal :=
  match i with
  | .setField tag payload => Sys2Proof.Machine.execSetField tag payload s
  | .getField tag payload => Sys2Proof.Machine.execGetField tag payload s
  | .getGroup tag payload => Sys2Proof.Machine.execGetGroup tag payload s
  | .setGroup tag payload => Sys2Proof.Machine.execSetGroup tag payload s
  | .defaultSetup tag payload => Sys2Proof.Machine.execDefaultSetup tag payload s
  | .undo tag payload => Sys2Proof.Machine.execUndo tag payload s
  | .getUndoDepth tag payload => Sys2Proof.Machine.execGetUndoDepth tag payload s
  | .keyScan raw => Sys2Proof.Machine.execKeyScan raw s
  | .keyPress p => Sys2Proof.Machine.execKeyPress p s
  | .keyRelease p => Sys2Proof.Machine.execKeyRelease p s
  | .keyRepeat p => Sys2Proof.Machine.execKeyRepeat p s
  | .getKeys tag payload => Sys2Proof.Machine.execGetKeys tag payload s
  | .setKeyAction tag payload => Sys2Proof.Machine.execSetKeyAction tag payload s
  | .getKeyAction tag payload => Sys2Proof.Machine.execGetKeyAction tag payload s
  | .encoderTransition e a b => Sys2Proof.Machine.execEncoderTransition e a b s
  | .encoderWindowEnd e => Sys2Proof.Machine.execEncoderWindowEnd e s
  | .setBinding tag payload => Sys2Proof.Machine.execSetBinding tag payload s
  | .getBinding tag payload => Sys2Proof.Machine.execGetBinding tag payload s
  | .ledBlinkToggle => Sys2Proof.Machine.execLedBlinkToggle s
  | .setLed tag payload => Sys2Proof.Machine.execSetLed tag payload s
  | .getLeds tag payload => Sys2Proof.Machine.execGetLeds tag payload s
  | .beep tag payload => Sys2Proof.Machine.execBeep tag payload s
  | .toneEnd => Sys2Proof.Machine.execToneEnd s
  | .getPanelStatus tag payload => Sys2Proof.Machine.execGetPanelStatus tag payload s
  | .feSetupAnnouncement => Sys2Proof.Machine.execFeSetupAnnouncement s
  | .feLatch => Sys2Proof.Machine.execFeLatch s
  | .settleTimerEnd => Sys2Proof.Machine.execSettleTimerEnd s
  | .feReadyRise => Sys2Proof.Machine.execFeReadyRise s
  | .feReadyFall => Sys2Proof.Machine.execFeReadyFall s
  | .readyWaitExpiry => Sys2Proof.Machine.execReadyWaitExpiry s
  | .getFeStatus tag payload => Sys2Proof.Machine.execGetFeStatus tag payload s
  | .settlingBegan => Sys2Proof.Machine.execSettlingBegan s
  | .settlingEnded => Sys2Proof.Machine.execSettlingEnded s
  | .faultAnnouncement => Sys2Proof.Machine.execFaultAnnouncement s
  | .faultCleared => Sys2Proof.Machine.execFaultCleared s
  | .feClassChange => Sys2Proof.Machine.execFeClassChange s
  | .acqClassChange => Sys2Proof.Machine.execAcqClassChange s
  | .geomClassChange order => Sys2Proof.Machine.execGeomClassChange order s
  | .trigClassChange => Sys2Proof.Machine.execTrigClassChange s
  | .sample r1 r2 r3 r4 ext => Sys2Proof.Machine.execSample r1 r2 r3 r4 ext s
  | .intervalComplete => Sys2Proof.Machine.execIntervalComplete s
  | .captureComplete measFirst dispFirst => Sys2Proof.Machine.execCaptureComplete measFirst dispFirst s
  | .holdoffExpiry => Sys2Proof.Machine.execHoldoffExpiry s
  | .autoTimerExpiry => Sys2Proof.Machine.execAutoTimerExpiry s
  | .rateGateEnd => Sys2Proof.Machine.execRateGateEnd s
  | .run tag payload => Sys2Proof.Machine.execRun tag payload s
  | .stop tag payload => Sys2Proof.Machine.execStop tag payload s
  | .single tag payload => Sys2Proof.Machine.execSingle tag payload s
  | .forceTrigger tag payload => Sys2Proof.Machine.execForceTrigger tag payload s
  | .getAcqStatus tag payload => Sys2Proof.Machine.execGetAcqStatus tag payload s
  | .failStop => Sys2Proof.Machine.execFailStop s
  | .gateOpened measFirst dispFirst => Sys2Proof.Machine.execGateOpened measFirst dispFirst s
  | .rebuildAnnouncement => Sys2Proof.Machine.execRebuildAnnouncement s
  | .holdRecord tag payload => Sys2Proof.Machine.execHoldRecord tag payload s
  | .readPoints tag payload => Sys2Proof.Machine.execReadPoints tag payload s
  | .releaseRecord tag release => Sys2Proof.Machine.execReleaseRecord tag release s
  | .listRecords tag payload => Sys2Proof.Machine.execListRecords tag payload s
  | .clear tag payload => Sys2Proof.Machine.execClear tag payload s
  | .measCommitTaken => Sys2Proof.Machine.execMeasCommitTaken s
  | .measRingAnnouncement => Sys2Proof.Machine.execMeasRingAnnouncement s
  | .measClassChange => Sys2Proof.Machine.execMeasClassChange s
  | .evaluationComplete => Sys2Proof.Machine.execEvaluationComplete s
  | .limitTimerExpiry => Sys2Proof.Machine.execLimitTimerExpiry s
  | .getResults tag payload => Sys2Proof.Machine.execGetResults tag payload s
  | .clearStats tag payload => Sys2Proof.Machine.execClearStats tag payload s
  | .clearFail tag payload => Sys2Proof.Machine.execClearFail tag payload s
  | .limitOut tag payload => Sys2Proof.Machine.execLimitOut tag payload s
  | .frameStart => Sys2Proof.Machine.execFrameStart s
  | .rasterCommitTaken => Sys2Proof.Machine.execRasterCommitTaken s
  | .rasterComplete => Sys2Proof.Machine.execRasterComplete s
  | .displaySetupAnnouncement => Sys2Proof.Machine.execDisplaySetupAnnouncement s
  | .displayRingAnnouncement => Sys2Proof.Machine.execDisplayRingAnnouncement s
  | .showRecord tag payload => Sys2Proof.Machine.execShowRecord tag payload s
  | .cursorRead tag payload => Sys2Proof.Machine.execCursorRead tag payload s
  | .clearDisplay tag payload => Sys2Proof.Machine.execClearDisplay tag payload s
  | .getDisplayStatus tag payload => Sys2Proof.Machine.execGetDisplayStatus tag payload s
  | .draw tag payload => Sys2Proof.Machine.execDraw tag payload s
  | .drawRecordComplete => Sys2Proof.Machine.execDrawRecordComplete s
  | .presentCopyComplete => Sys2Proof.Machine.execPresentCopyComplete s
  | .setPalette tag payload => Sys2Proof.Machine.execSetPalette tag payload s
  | .getOverlayStatus tag payload => Sys2Proof.Machine.execGetOverlayStatus tag payload s
  | .save tag payload => Sys2Proof.Machine.execSave tag payload s
  | .recall tag payload => Sys2Proof.Machine.execRecall tag payload s
  | .erase tag payload => Sys2Proof.Machine.execErase tag payload s
  | .listSlots tag payload => Sys2Proof.Machine.execListSlots tag payload s
  | .calWrite tag payload => Sys2Proof.Machine.execCalWrite tag payload s
  | .calRead tag payload => Sys2Proof.Machine.execCalRead tag payload s
  | .storeWriteComplete => Sys2Proof.Machine.execStoreWriteComplete s
  | .loadComplete => Sys2Proof.Machine.execLoadComplete s
  | .supplyReset straps => Sys2Proof.Machine.execSupplyReset straps s
  | .holdTimerExpiry => Sys2Proof.Machine.execHoldTimerExpiry s
  | .standby tag payload => Sys2Proof.Machine.execStandby tag payload s
  | .graceTimerExpiry => Sys2Proof.Machine.execGraceTimerExpiry s
  | .getPower tag payload => Sys2Proof.Machine.execGetPower tag payload s
  | .frameReceived b => Sys2Proof.Machine.execFrameReceived b s
  | .frameRefused b => Sys2Proof.Machine.execFrameRefused b s
  | .interByteTimeout => Sys2Proof.Machine.execInterByteTimeout s
  | .breakDetected => Sys2Proof.Machine.execBreakDetected s
  | .breakEnd => Sys2Proof.Machine.execBreakEnd s
  | .dispatchBadCode tag code payload => Sys2Proof.Machine.execDispatchBadCode tag code payload s
  | .transmitFrameEnd => Sys2Proof.Machine.execTransmitFrameEnd s
  | .keyNoticeMove => Sys2Proof.Machine.execKeyNoticeMove s
  | .setNotices tag payload => Sys2Proof.Machine.execSetNotices tag payload s
  | .getStatus tag payload => Sys2Proof.Machine.execGetStatus tag payload s
  | .clearLinkErrors tag payload => Sys2Proof.Machine.execClearLinkErrors tag payload s
  | .reset order tag payload => Sys2Proof.Machine.execReset order tag payload s
  | .receivedByte b => Sys2Proof.Machine.execReceivedByte b s

end Sys2Proof.Machine
end

