-- ==== Sys2Proof/WellFormed.lean ====
section
/-! DEFINITION. Well-formed commands: those that can reach the block as the data sheet describes its pins, frames and tables.
A request with a payload of a length that Table 52 does not give it is well formed: it is answered BAD_LENGTH (R212). -/

namespace Sys2Proof

open Machine

/-- The code of the request frame that a command stands for (Table 52); none for an event. -/
def Instr.requestCode : Instr → Option Byte
  | .setField _ _ => some 0x01
  | .getField _ _ => some 0x02
  | .getGroup _ _ => some 0x03
  | .setGroup _ _ => some 0x04
  | .defaultSetup _ _ => some 0x05
  | .undo _ _ => some 0x06
  | .getUndoDepth _ _ => some 0x07
  | .keyScan _ => none
  | .keyPress _ => none
  | .keyRelease _ => none
  | .keyRepeat _ => none
  | .getKeys _ _ => some 0x10
  | .setKeyAction _ _ => some 0x11
  | .getKeyAction _ _ => some 0x12
  | .encoderTransition _ _ _ => none
  | .encoderWindowEnd _ => none
  | .setBinding _ _ => some 0x13
  | .getBinding _ _ => some 0x14
  | .ledBlinkToggle => none
  | .setLed _ _ => some 0x15
  | .getLeds _ _ => some 0x16
  | .beep _ _ => some 0x17
  | .toneEnd => none
  | .getPanelStatus _ _ => some 0x18
  | .feSetupAnnouncement => none
  | .feLatch => none
  | .settleTimerEnd => none
  | .feReadyRise => none
  | .feReadyFall => none
  | .readyWaitExpiry => none
  | .getFeStatus _ _ => some 0x20
  | .settlingBegan => none
  | .settlingEnded => none
  | .faultAnnouncement => none
  | .faultCleared => none
  | .feClassChange => none
  | .acqClassChange => none
  | .geomClassChange _ => none
  | .trigClassChange => none
  | .sample _ _ _ _ _ => none
  | .intervalComplete => none
  | .captureComplete _ _ => none
  | .holdoffExpiry => none
  | .autoTimerExpiry => none
  | .rateGateEnd => none
  | .run _ _ => some 0x28
  | .stop _ _ => some 0x29
  | .single _ _ => some 0x2A
  | .forceTrigger _ _ => some 0x2B
  | .getAcqStatus _ _ => some 0x2C
  | .failStop => none
  | .gateOpened _ _ => none
  | .rebuildAnnouncement => none
  | .holdRecord _ _ => some 0x30
  | .readPoints _ _ => some 0x31
  | .releaseRecord _ _ => some 0x32
  | .listRecords _ _ => some 0x33
  | .clear _ _ => some 0x34
  | .measCommitTaken => none
  | .measRingAnnouncement => none
  | .measClassChange => none
  | .evaluationComplete => none
  | .limitTimerExpiry => none
  | .getResults _ _ => some 0x38
  | .clearStats _ _ => some 0x39
  | .clearFail _ _ => some 0x3A
  | .limitOut _ _ => some 0x3B
  | .frameStart => none
  | .rasterCommitTaken => none
  | .rasterComplete => none
  | .displaySetupAnnouncement => none
  | .displayRingAnnouncement => none
  | .showRecord _ _ => some 0x40
  | .cursorRead _ _ => some 0x41
  | .clearDisplay _ _ => some 0x42
  | .getDisplayStatus _ _ => some 0x43
  | .draw _ _ => some 0x48
  | .drawRecordComplete => none
  | .presentCopyComplete => none
  | .setPalette _ _ => some 0x49
  | .getOverlayStatus _ _ => some 0x4A
  | .save _ _ => some 0x50
  | .recall _ _ => some 0x51
  | .erase _ _ => some 0x52
  | .listSlots _ _ => some 0x53
  | .calWrite _ _ => some 0x54
  | .calRead _ _ => some 0x55
  | .storeWriteComplete => none
  | .loadComplete => none
  | .supplyReset _ => none
  | .holdTimerExpiry => none
  | .standby _ _ => some 0x58
  | .graceTimerExpiry => none
  | .getPower _ _ => some 0x59
  | .frameReceived _ => none
  | .frameRefused _ => none
  | .interByteTimeout => none
  | .breakDetected => none
  | .breakEnd => none
  | .dispatchBadCode _ code _ => some code
  | .transmitFrameEnd => none
  | .keyNoticeMove => none
  | .setNotices _ _ => some 0x62
  | .getStatus _ _ => some 0x60
  | .clearLinkErrors _ _ => some 0x61
  | .reset _ _ _ => some 0x63
  | .receivedByte _ => none

/-- The request frame that a command stands for, as the host sends it: kind 1, status 0 (Table 51). -/
def Instr.frame : Instr → Option Frame
  | .setField tag payload => some ⟨1, tag, 0x01, 0, payload⟩
  | .getField tag payload => some ⟨1, tag, 0x02, 0, payload⟩
  | .getGroup tag payload => some ⟨1, tag, 0x03, 0, payload⟩
  | .setGroup tag payload => some ⟨1, tag, 0x04, 0, payload⟩
  | .defaultSetup tag payload => some ⟨1, tag, 0x05, 0, payload⟩
  | .undo tag payload => some ⟨1, tag, 0x06, 0, payload⟩
  | .getUndoDepth tag payload => some ⟨1, tag, 0x07, 0, payload⟩
  | .keyScan _ => none
  | .keyPress _ => none
  | .keyRelease _ => none
  | .keyRepeat _ => none
  | .getKeys tag payload => some ⟨1, tag, 0x10, 0, payload⟩
  | .setKeyAction tag payload => some ⟨1, tag, 0x11, 0, payload⟩
  | .getKeyAction tag payload => some ⟨1, tag, 0x12, 0, payload⟩
  | .encoderTransition _ _ _ => none
  | .encoderWindowEnd _ => none
  | .setBinding tag payload => some ⟨1, tag, 0x13, 0, payload⟩
  | .getBinding tag payload => some ⟨1, tag, 0x14, 0, payload⟩
  | .ledBlinkToggle => none
  | .setLed tag payload => some ⟨1, tag, 0x15, 0, payload⟩
  | .getLeds tag payload => some ⟨1, tag, 0x16, 0, payload⟩
  | .beep tag payload => some ⟨1, tag, 0x17, 0, payload⟩
  | .toneEnd => none
  | .getPanelStatus tag payload => some ⟨1, tag, 0x18, 0, payload⟩
  | .feSetupAnnouncement => none
  | .feLatch => none
  | .settleTimerEnd => none
  | .feReadyRise => none
  | .feReadyFall => none
  | .readyWaitExpiry => none
  | .getFeStatus tag payload => some ⟨1, tag, 0x20, 0, payload⟩
  | .settlingBegan => none
  | .settlingEnded => none
  | .faultAnnouncement => none
  | .faultCleared => none
  | .feClassChange => none
  | .acqClassChange => none
  | .geomClassChange _ => none
  | .trigClassChange => none
  | .sample _ _ _ _ _ => none
  | .intervalComplete => none
  | .captureComplete _ _ => none
  | .holdoffExpiry => none
  | .autoTimerExpiry => none
  | .rateGateEnd => none
  | .run tag payload => some ⟨1, tag, 0x28, 0, payload⟩
  | .stop tag payload => some ⟨1, tag, 0x29, 0, payload⟩
  | .single tag payload => some ⟨1, tag, 0x2A, 0, payload⟩
  | .forceTrigger tag payload => some ⟨1, tag, 0x2B, 0, payload⟩
  | .getAcqStatus tag payload => some ⟨1, tag, 0x2C, 0, payload⟩
  | .failStop => none
  | .gateOpened _ _ => none
  | .rebuildAnnouncement => none
  | .holdRecord tag payload => some ⟨1, tag, 0x30, 0, payload⟩
  | .readPoints tag payload => some ⟨1, tag, 0x31, 0, payload⟩
  | .releaseRecord tag release => some ⟨1, tag, 0x32, 0, release.payload⟩
  | .listRecords tag payload => some ⟨1, tag, 0x33, 0, payload⟩
  | .clear tag payload => some ⟨1, tag, 0x34, 0, payload⟩
  | .measCommitTaken => none
  | .measRingAnnouncement => none
  | .measClassChange => none
  | .evaluationComplete => none
  | .limitTimerExpiry => none
  | .getResults tag payload => some ⟨1, tag, 0x38, 0, payload⟩
  | .clearStats tag payload => some ⟨1, tag, 0x39, 0, payload⟩
  | .clearFail tag payload => some ⟨1, tag, 0x3A, 0, payload⟩
  | .limitOut tag payload => some ⟨1, tag, 0x3B, 0, payload⟩
  | .frameStart => none
  | .rasterCommitTaken => none
  | .rasterComplete => none
  | .displaySetupAnnouncement => none
  | .displayRingAnnouncement => none
  | .showRecord tag payload => some ⟨1, tag, 0x40, 0, payload⟩
  | .cursorRead tag payload => some ⟨1, tag, 0x41, 0, payload⟩
  | .clearDisplay tag payload => some ⟨1, tag, 0x42, 0, payload⟩
  | .getDisplayStatus tag payload => some ⟨1, tag, 0x43, 0, payload⟩
  | .draw tag payload => some ⟨1, tag, 0x48, 0, payload⟩
  | .drawRecordComplete => none
  | .presentCopyComplete => none
  | .setPalette tag payload => some ⟨1, tag, 0x49, 0, payload⟩
  | .getOverlayStatus tag payload => some ⟨1, tag, 0x4A, 0, payload⟩
  | .save tag payload => some ⟨1, tag, 0x50, 0, payload⟩
  | .recall tag payload => some ⟨1, tag, 0x51, 0, payload⟩
  | .erase tag payload => some ⟨1, tag, 0x52, 0, payload⟩
  | .listSlots tag payload => some ⟨1, tag, 0x53, 0, payload⟩
  | .calWrite tag payload => some ⟨1, tag, 0x54, 0, payload⟩
  | .calRead tag payload => some ⟨1, tag, 0x55, 0, payload⟩
  | .storeWriteComplete => none
  | .loadComplete => none
  | .supplyReset _ => none
  | .holdTimerExpiry => none
  | .standby tag payload => some ⟨1, tag, 0x58, 0, payload⟩
  | .graceTimerExpiry => none
  | .getPower tag payload => some ⟨1, tag, 0x59, 0, payload⟩
  | .frameReceived _ => none
  | .frameRefused _ => none
  | .interByteTimeout => none
  | .breakDetected => none
  | .breakEnd => none
  | .dispatchBadCode tag code payload => some ⟨1, tag, code, 0, payload⟩
  | .transmitFrameEnd => none
  | .keyNoticeMove => none
  | .setNotices tag payload => some ⟨1, tag, 0x62, 0, payload⟩
  | .getStatus tag payload => some ⟨1, tag, 0x60, 0, payload⟩
  | .clearLinkErrors tag payload => some ⟨1, tag, 0x61, 0, payload⟩
  | .reset _ tag payload => some ⟨1, tag, 0x63, 0, payload⟩
  | .receivedByte _ => none

/-- The payload lengths that Table 52 allows for a request, by its code; none for a code that names no request. -/
def allowedLength (code : Byte) : Option (Nat → Bool) :=
  match code.toNat with
  | 0x01 => some (len 10)
  | 0x02 => some (len 2)
  | 0x03 => some (len 1)
  | 0x04 => some groupLen
  | 0x05 => some (len 0)
  | 0x06 => some (len 0)
  | 0x07 => some (len 0)
  | 0x10 => some (len 0)
  | 0x11 => some (len 4)
  | 0x12 => some (len 1)
  | 0x13 => some (len 5)
  | 0x14 => some (len 1)
  | 0x15 => some (len 2)
  | 0x16 => some (len 0)
  | 0x17 => some (len 4)
  | 0x18 => some (len 0)
  | 0x20 => some (len 0)
  | 0x28 => some (len 0)
  | 0x29 => some (len 0)
  | 0x2A => some (len 0)
  | 0x2B => some (len 0)
  | 0x2C => some (len 0)
  | 0x30 => some (len 4)
  | 0x31 => some (len 8)
  | 0x32 => some (len 1)
  | 0x33 => some (len 2)
  | 0x34 => some (len 0)
  | 0x38 => some (len 0)
  | 0x39 => some (len 0)
  | 0x3A => some (len 0)
  | 0x3B => some (len 1)
  | 0x40 => some (len 4)
  | 0x41 => some (len 0)
  | 0x42 => some (len 0)
  | 0x43 => some (len 0)
  | 0x48 => some drawLen
  | 0x49 => some paletteLen
  | 0x4A => some (len 0)
  | 0x50 => some saveLen
  | 0x51 => some (len 1)
  | 0x52 => some (len 1)
  | 0x53 => some (len 0)
  | 0x54 => some (len 5)
  | 0x55 => some (len 2)
  | 0x58 => some (len 0)
  | 0x59 => some (len 0)
  | 0x62 => some (len 2)
  | 0x60 => some (len 0)
  | 0x61 => some (len 0)
  | 0x63 => some (len 0)
  | _ => none

/-- Table 51: a frame holds at most 512 payload bytes. -/
def maxPayload : Nat := 512

/-- A frame of which the receiver makes a good frame: kind REQUEST and a payload that fits (R209, Table 51). -/
def frameWf (f : Frame) : Bool := decide (f.kind = 1) && decide (f.payload.length ≤ maxPayload)

/-- A command is well formed: the frame of a request fits; a repeat timer runs for positions 17..34 alone (R32); a code that
names no request is not in Table 52 (R212). -/
def Instr.wf (i : Instr) : Bool :=
  match i with
  | .keyRepeat p => decide (17 ≤ p.val ∧ p.val ≤ 34)
  | .dispatchBadCode _ code payload => !requestCodes.contains code.toNat && decide (payload.length ≤ maxPayload)
  | i =>
    match i.frame with
    | some f => frameWf f
    | none => true

end Sys2Proof
end

