-- ==== Sys2Proof/Safety.lean ====
section
/-! DEFINITION. What counts as a sound run of the SC410, in the terms that statements use: the frame of a command, and the
invariants that every step keeps. -/

namespace Sys2Proof.Machine

/-! ### Frames -/

/-- The parts of State, for saying what a command leaves alone. -/
inductive Block where
  | pending
  | clock
  | pins
  | setup
  | panel
  | fe
  | acq
  | ring
  | meas
  | disp
  | ov
  | store
  | power
  | link
  | boxes
  | freeCtr
  deriving DecidableEq, Repr

/-- A part of State is the same in both states. -/
def Block.same (b : Block) (s t : State) : Prop :=
  match b with
  | .pending => t.pending = s.pending
  | .clock => t.clock = s.clock
  | .pins => t.pins = s.pins
  | .setup => t.setup = s.setup
  | .panel => t.panel = s.panel
  | .fe => t.fe = s.fe
  | .acq => t.acq = s.acq
  | .ring => t.ring = s.ring
  | .meas => t.meas = s.meas
  | .disp => t.disp = s.disp
  | .ov => t.ov = s.ov
  | .store => t.store = s.store
  | .power => t.power = s.power
  | .link => t.link = s.link
  | .boxes => t.boxes = s.boxes
  | .freeCtr => t.freeCtr = s.freeCtr

/-- From `s` to `t` nothing but the listed parts of State has changed. -/
def Changes (bs : List Block) (s t : State) : Prop := ∀ b, b ∉ bs → b.same s t

/-- A request that the dispatcher takes and answers at once, when its owner leaves the state as it is: the frame leaves the
receive queue and the reply enters the reply queue (R212). -/
def State.replied (s : State) (code tag : Byte) (st : Status) (payload : List Byte) : State :=
  s.takeFrame.pushReply ⟨tag, code, st, payload⟩

/-- One announcement of the Setup Controller is put on its way to each block that Table 12 lists for it (R9). -/
def Announced (s t : State) (a : SetupAnn) : Prop :=
  t.boxes.fe = addIf a.toFe s.boxes.fe a ∧ t.boxes.acq = addIf a.toAcq s.boxes.acq a ∧
    t.boxes.ring = addIf a.toRing s.boxes.ring a ∧ t.boxes.meas = addIf a.toMeas s.boxes.meas a ∧
    t.boxes.disp = addIf a.toDisp s.boxes.disp a ∧ t.boxes.panel = addIf a.toPanel s.boxes.panel a

/-- The frame of a change of the live setup. Besides the Setup Controller, the link and the announcements, only what follows
the live setup from the moment it is written can change: the readiness and the gate last presented, with their
announcements (R63, R138), the fail-stop-outstanding flag, which FAILSTOP turned off clears (R140), and the slots of an
evaluation in flight of which a field has changed, ids 100 + 10m to 105 + 10m for slot `m`, which take no part at its
completion (R127). -/
def SetupFrame (s t : State) : Prop :=
  Changes [.setup, .meas, .fe, .boxes, .link] s t ∧
    t.meas = { s.meas with
      eval := s.meas.eval.map (fun e => { e with
        dirty := Vector.ofFn (fun m : Fin 6 =>
          e.dirty[m] || decide (∃ k : Fin 6, s.fld (100 + 10 * m.val + k.val) ≠ t.fld (100 + 10 * m.val + k.val))) })
      gateShut := t.meas.gateShut
      failFlag := s.meas.failFlag && !decide (s.fld idFailstop ≠ 0 ∧ t.fld idFailstop = 0) } ∧
    t.fe = { s.fe with readyShown := t.fe.readyShown } ∧
    t.boxes.fault = s.boxes.fault ∧ t.boxes.failStops = s.boxes.failStops ∧ t.boxes.rebuilds = s.boxes.rebuilds ∧
    t.boxes.offers = s.boxes.offers ∧ t.boxes.measRing = s.boxes.measRing ∧ t.boxes.dispRing = s.boxes.dispRing

/-- A flag as a number (Table 58). -/
def bit (b : Bool) : Nat := if b then 1 else 0

/-- The generation number one higher, 65,535 being followed by 0 (R13). -/
def nextGen (g : Nat) : Nat := (g + 1) % 65536

/-- R9, R11 and R14: from `s` to `t` a change of field `i` to another value `v` has been applied for a source whose changes
are told to the host: KNOB, KEY and UNDO. Its undo record is not spoken of. -/
structure PanelChange (s t : State) (i : Fin 87) (v : Int) (src : Source) : Prop where
  live : t.setup.live = s.setup.live.set i v
  gen : t.setup.gen = nextGen s.setup.gen
  told : Announced s t ⟨[⟨(fieldInfo i).id, s.setup.live[i], v⟩], false, src, nextGen s.setup.gen⟩
  link : t.link = (s.offer (.setupChanged (fieldInfo i).id v src (nextGen s.setup.gen))).link
  frame : SetupFrame s t

/-- R98 and R82: a reload that was deferred in POST_FILL is made at the discard of the capture, and no other. -/
structure DeferredReload (s t : State) : Prop where
  made : s.acq.deferred = true → s.acq.cap.isSome = true →
    t.acq.cmp = ⟨s.acq.cmp.running, trigOf s.setup.live, false, false, none⟩ ∧ t.acq.deferred = false ∧
      t.acq.rateCount = 0 ∧ t.acq.gateEnd = if s.acq.cmp.running then some (s.clock.now + 1000000000) else none
  other : s.acq.deferred = false ∨ s.acq.cap = none →
    t.acq.cmp = s.acq.cmp ∧ t.acq.deferred = s.acq.deferred ∧ t.acq.rateCount = s.acq.rateCount ∧
      t.acq.gateEnd = s.acq.gateEnd

/-- R85 to R88: a capture `c` in PRE_FILL put to the test for ARMED. The holdoff runs from the last trigger accepted. With the
holdoff over and Npre points stored the engine enters ARMED, where the auto timer starts under TMODE AUTO and a force that
waits is applied; until then the capture stays in PRE_FILL. -/
def State.afterArmTest (s : State) (c : Capture) : Acq :=
  let holdoffEnd : Option Nat := match s.acq.lastTrig with
    | none => none
    | some l => if s.clock.now < l.moment + c.trig.holdoff.toNat then some (l.moment + c.trig.holdoff.toNat) else none
  if c.pre.length < c.geom.npre ∨ holdoffEnd ≠ none then
    { s.acq with st := .preFill, cap := some c, holdoffEnd := holdoffEnd }
  else if s.acq.pendingForce = false then
    { s.acq with
      st := .armed, cap := some c, holdoffEnd := none
      autoEnd := if c.trig.mode = 0
        then some (s.clock.now + min (100000000 + c.geom.leff * 2 ^ c.geom.dExp) 10000000000) else none }
  else
    { s.acq with
      st := .postFill, holdoffEnd := none, autoEnd := none, pendingForce := false
      lastTrig := some ⟨s.timeBase, s.clock.now, .forced⟩
      cap := some { c with gap := c.ivN, ivN := 0, trigTime := s.timeBase, trigCause := .forced, hit := false } }

/-- R121 and R122: the geometry check leads from `u` to `t`. -/
structure GeometryChecked (u t : State) : Prop where
  built : u.geomBuilt = true → u.ring.geomPending = false → t = u
  locked : u.geomBuilt = false ∨ u.ring.geomPending = true → u.ring.anyLock = true →
    t = { u with ring := { u.ring with geomPending := true } }
  filling : u.geomBuilt = false ∨ u.ring.geomPending = true → u.ring.anyLock = false → u.ring.filling = true → t = u
  rebuilt : u.geomBuilt = false ∨ u.ring.geomPending = true → u.ring.anyLock = false → u.ring.filling = false →
    let c := min 64 (262144 / (u.liveGeom.leff * u.liveGeom.w))
    t = { u with
      ring := { u.ring with
        order := [], slots := List.replicate c .empty, leff := u.liveGeom.leff, w := u.liveGeom.w, cap := c
        pin := none, geomPending := false, waitRebuild := false }
      boxes := { u.boxes with
        rebuilds := u.boxes.rebuilds + 1, measRing := u.boxes.measRing ++ [.emptied]
        dispRing := u.boxes.dispRing ++ (match u.ring.pin with
          | none => []
          | some n => [.pinCancelled n]) ++ [.emptied] } }

/-- R109: an offer of slot `i`, the slot FILLING and the waiting note clear, reaches the engine, which leads from `s` to `t`: in
WAIT_SLOT it is taken as a claim that is granted (R78, R79, R85), in any other state it is declined, and the slot becomes
EMPTY. That the geometry is checked then is log entry 40. -/
structure SlotTaken (s t : State) (i : Nat) : Prop where
  taken : s.acq.st = .waitSlot → t = { s with acq := s.afterArmTest (s.newCapture i) }
  declined : s.acq.st ≠ .waitSlot →
    GeometryChecked { s with ring := { s.ring with slots := s.ring.slots.set i .empty } } t

/-- R109: the withdrawal of a claim finds an offer of slot `i` on its way, the only one, and leads from `s` to `t`: the offer is
declined and its slot becomes EMPTY (log entry 40). -/
def OfferDeclined (s t : State) (i : Nat) : Prop :=
  GeometryChecked { s with
    ring := { s.ring with slots := s.ring.slots.set i .empty, waitSlot := false, waitRebuild := false }
    boxes := { s.boxes with offers := [] } } t

/-- A running acquisition has been stopped: no capture, no claim, no pending force and no timer is left (R93), the slot of a
capture is EMPTY, and a deferred reload has been made (R98). A claim that waits is withdrawn; an offer still on its way is
declined by that (R109, log entry 40), and the geometry is checked. The front-end fault flag and the discard counts are not
spoken of. -/
structure AcqEnded (s t : State) : Prop where
  st : t.acq.st = .stopped
  mode : t.acq.mode = s.acq.mode
  cap : t.acq.cap = none
  force : t.acq.pendingForce = false
  holdoff : t.acq.holdoffEnd = none
  auto : t.acq.autoEnd = none
  lastTrig : t.acq.lastTrig = s.acq.lastTrig
  held : t.acq.rateHeld = s.acq.rateHeld
  meas : t.meas = { s.meas with failFlag := false, gateShut := t.meas.gateShut }
  reload : DeferredReload s t
  slot : ∀ c, s.acq.cap = some c → ∀ q, t.ring.slots[c.slot]? = some q → q = SlotSt.empty
  claim : s.acq.cap = none → s.boxes.offers = [] → t.ring = { s.ring with waitSlot := false, waitRebuild := false }
  declined : s.acq.cap = none → ∀ i, s.boxes.offers = [i] → ∃ u, OfferDeclined s u i ∧ t.ring = u.ring ∧
    t.boxes.offers = [] ∧ t.boxes.rebuilds = u.boxes.rebuilds ∧ t.boxes.measRing = u.boxes.measRing ∧
    t.boxes.dispRing = u.boxes.dispRing
  frame : Changes [.acq, .ring, .boxes, .meas, .link] s t

/-- R120: a segmented start's discards lead from `s` to `t`: every record that no lock names leaves, its slot becomes EMPTY,
and a pin on one of them is cancelled; that its announcement comes first is the model's choice (log entry 42). -/
structure SegmentsDiscarded (s t : State) : Prop where
  order : t.ring.order = s.ring.order.filter (fun x => s.ring.locked x.number)
  slots : ∀ i : Nat, t.ring.slots[i]? =
    if ∃ x ∈ s.ring.order, x.slot = i ∧ s.ring.locked x.number = false then s.ring.slots[i]?.map (fun _ => SlotSt.empty)
    else s.ring.slots[i]?
  pin : t.ring.pin = if ∃ x ∈ s.ring.order, s.ring.pin = some x.number ∧ s.ring.locked x.number = false then none
    else s.ring.pin
  told : let gone : List RingAnn :=
      (s.ring.order.filter (fun x => !s.ring.locked x.number)).map (fun x => .discard x.number)
    t.boxes = { s.boxes with
      measRing := s.boxes.measRing ++ gone
      dispRing := s.boxes.dispRing ++ (match s.ring.pin with
        | none => []
        | some n => if t.ring.pin = none then [.pinCancelled n] else []) ++ gone }
  frame : t = { s with
    boxes := t.boxes, ring := { s.ring with order := t.ring.order, slots := t.ring.slots, pin := t.ring.pin } }

/-- R92 and R94 with R158: a stopped acquisition is started with a run mode: the selection returns to NEWEST, a segmented
start under SEGMENTED discards first, a capture is started, and ACQ_STATE tells the state reached. -/
def State.started (s : State) (m : RunMode) (cause : AcqCause) : State :=
  let s1 := if s.fld idSegmented = 1 then s.segmentedDiscard else s
  let s2 : State := { s1 with
    acq := { s.acq with mode := m, st := .settling }, disp := { s.disp with sel := none, redraw := false } }
  s2.startCapture.offer (.acqState s2.startCapture.acq.st m cause)

/-- One more capture discarded, saturating (R104), when one was in flight. -/
def discarded (n : Nat) (c : Option Capture) : Nat := if c.isSome then min 4294967295 (n + 1) else n

/-- Table 45: a standby entry at the moment `now`, with the forced-off flag as given (R204 and the rules it gathers). The
announcements on their way are dropped (log entry 13); those that remain are what the entry itself hands over: the end of
readiness (R63), the gate opened (R138), the emptied announcements of the ring (R123), of a rebuild (R122) and of the pin
(R113), whose cancellation the display is handed first (log entry 42). Of the recognised key changes that wait, those of POWER
stay and the others go (log entry 35). A slot that is on offer becomes EMPTY (log entry 40). Acquisition ends as at a power stop, with its STOP discard (R101, R104), at which a
deferred reload is made (R98). -/
structure StandbyEntered (s t : State) (now : Nat) (forced : Bool) : Prop where
  clock : t.clock = { s.clock with now := now }
  power : t.power = { s.power with
    st := .standby, forcedOff := forced, holdEnd := none, graceEnd := none, saved := none, replyCancelled := false }
  link : t.link = { linkInitial with rate := s.link.rate }
  setup : t.setup = { s.setup with undo := [] }
  encs : ∀ e : Fin 12, t.panel.encs[e] = { s.panel.encs[e] with illegal := 0, window := none }
  keys : ∀ p : Fin 64, t.panel.keys[p] = if p = 0 then s.panel.keys[p] else keyUp
  panel : t.panel = { s.panel with
    keys := t.panel.keys, due := s.panel.due.filter (fun d => d.pos == 0), queue := [], actions := defaultActions
    encs := t.panel.encs, bindings := defaultBindings, overrides := Vector.replicate 12 .auto
    hostLeds := Vector.replicate 12 false, tone := none, blinkGreen := false, blinkEnd := none }
  front : s.fe.cond ≠ .up → t.fe.cond = .off ∧ t.fe.port = none
  final : s.fe.cond = .up → t.fe.cond = .up ∧ ∃ x, t.fe.port = some x ∧ x.final = true ∧ x.endAt = now + 4000 ∧
    ∀ c : Fin 4, x.words[c].power = false
  settle : t.fe.settleEnd = none ∧ t.fe.waitEnd = none ∧ t.fe.readyShown = false
  acq : t.acq = { s.acq with
    st := .stopped, mode := .run, cap := if s.acq.st = .stopped then s.acq.cap else none, pendingForce := false
    holdoffEnd := none, autoEnd := none, lastTrig := none, fault := false
    cmp := ⟨false, if s.acq.st ≠ .stopped ∧ s.acq.cap.isSome = true ∧ s.acq.deferred = true then trigOf s.setup.live
      else s.acq.cmp.loaded, false, false, none⟩
    deferred := false, gateEnd := none, rateCount := 0, rateHeld := none
    discStop := if s.acq.st = .stopped then s.acq.discStop else discarded s.acq.discStop s.acq.cap }
  ring : t.ring.order = [] ∧ t.ring.counter = 0 ∧ t.ring.lock1 = none ∧ t.ring.lock2 = none ∧ t.ring.pin = none ∧
    t.ring.geomPending = false
  geometry : (∀ i : Nat, s.ring.slots[i]? = some SlotSt.filling →
      i ∈ s.boxes.offers ∨ (s.acq.st ≠ .stopped ∧ ∃ c, s.acq.cap = some c ∧ c.slot = i)) →
    t.geomBuilt = true ∧ ∀ q ∈ t.ring.slots, q = SlotSt.empty
  meas : t.meas = measInitial
  disp : t.disp = { s.disp with
    planes := Vector.replicate 4 [], raster := none, nd := 0, passed := 0, redraw := false, decays := 0, sel := none
    scanning := false }
  ov : t.ov = overlayInitial
  store : t.store = s.store
  pins : t.pins = s.pins
  model : t.pending = s.pending ∧ t.freeCtr = s.freeCtr
  dropped : t.boxes = { boxesEmpty with
    settle := if s.fe.readyShown = true then [true] else [], gateOpens := t.boxes.gateOpens
    rebuilds := t.boxes.rebuilds, measRing := List.replicate (t.boxes.rebuilds + 1) .emptied
    dispRing := t.boxes.dispRing }
  dispRing : ∃ l : List RingAnn, t.boxes.dispRing = l ++ List.replicate (t.boxes.rebuilds + 1) .emptied ∧
    (l = [] ∨ ∃ n, s.ring.pin = some n ∧ l = [.pinCancelled n]) ∧
    (s.acq.cap = none → s.acq.st = .stopped ∨ s.boxes.offers = [] → ∀ n, s.ring.pin = some n → l = [.pinCancelled n])
  rebuilds : t.boxes.rebuilds ≤ 1 ∧
    (s.acq.cap = none → s.acq.st = .stopped ∨ s.boxes.offers = [] →
      (∀ i : Nat, s.ring.slots[i]? = some SlotSt.filling → i ∈ s.boxes.offers) →
      t.boxes.rebuilds = if s.geomBuilt = true then 0 else 1)
  gateOpens : t.boxes.gateOpens ≤ 1 ∧
    (s.acq.st = .stopped → s.meas.gateShut = s.gateShutNow → t.boxes.gateOpens = bit s.meas.gateShut)

/-! ### Scheduling points -/

/-- R126: what the evaluation `e` of record `x`, started in `s`, has copied and read. -/
def EvalOf (s : State) (e : Eval) (x : Record) (k : EvalKind) : Prop :=
  e.record = x.number ∧ e.kind = k ∧ e.window = (x.points.drop x.geom.start).take x.geom.p ∧ e.chans = x.chans ∧
    e.mode = x.mode ∧ e.geom = x.geom ∧ e.zeroband = s.fld 160 ∧ e.rate = s.acq.rateHeld ∧ e.cleared = false ∧
    ∀ j : Fin 6, e.dirty[j] = false ∧ e.cfg[j] = ⟨s.fld (100 + 10 * j.val), s.fld (101 + 10 * j.val),
      decide (s.fld (102 + 10 * j.val) = 1), s.fld (103 + 10 * j.val), decide (s.fld (104 + 10 * j.val) = 1),
      s.fld (105 + 10 * j.val)⟩

/-- A record above a number is in the ring, and it is the newest. -/
def Newer (r : Ring) (n : Nat) : Prop := ∃ x, r.order.getLast? = some x ∧ n < x.number

/-- R125, R126 and R128: a scheduling point of an IDLE evaluator leads from `u` to `t`: the newest record above Ns; then the
numbers that have left the ring, at which the gate of R138 can open; then a pending re-evaluation. The origin of a result
made NO_RECORD is log entry 17. -/
structure MeasScheduled (u t : State) : Prop where
  first : ∀ x, u.ring.order.getLast? = some x → u.meas.ns < x.number →
    ∃ e, EvalOf u e x .first ∧ t = { u with meas := { u.meas with
      eval := some e, ns := x.number - 1, skipped := min 4294967295 (u.meas.skipped + (x.number - 1 - u.meas.ns)) } }
  gone : ¬Newer u.ring u.meas.ns → u.meas.ns < u.ring.counter →
    let shut := decide (u.fld 161 = 1) && u.meas.failFlag
    t = { u with
      meas := { u.meas with
        ns := u.ring.counter, skipped := min 4294967295 (u.meas.skipped + (u.ring.counter - u.meas.ns)), gateShut := shut }
      boxes := { u.boxes with gateOpens := u.boxes.gateOpens + bit (u.meas.gateShut && !shut) } }
  idle : ¬Newer u.ring u.meas.ns → u.ring.counter ≤ u.meas.ns → u.meas.reReq = false → t = u
  running : ¬Newer u.ring u.meas.ns → u.ring.counter ≤ u.meas.ns → u.meas.reReq = true → u.acq.st ≠ .stopped →
    t = { u with meas := { u.meas with reReq := false } }
  again : ¬Newer u.ring u.meas.ns → u.ring.counter ≤ u.meas.ns → u.meas.reReq = true → u.acq.st = .stopped →
    let shown : Option Record := match u.disp.sel with
      | none => u.ring.order.getLast?
      | some n => u.ring.order.find? (fun y => y.number == n)
    (∀ x, shown = some x → ∃ e, EvalOf u e x .re ∧ t = { u with meas := { u.meas with eval := some e, reReq := false } }) ∧
      (shown = none → t = { u with
        meas := { u.meas with reReq := false, results := Vector.replicate 6 ⟨0, .noRecord, false, none, .first⟩ } })

/-- R148: what the rasterisation `r` of record `x`, started in `s`, has copied. -/
def Drawn (s : State) (r : Raster) (x : Record) (k : RasterKind) : Prop :=
  r.record = x.number ∧ r.kind = k ∧ r.chans = x.chans ∧ r.mode = x.mode ∧ r.geom = x.geom ∧ r.points = x.points ∧
    r.tdiv = s.fld idTdiv ∧ r.hpos = s.fld idHpos ∧ r.persist = s.fld idPersist ∧
    ∀ c : Fin 4, r.on[c] = decide (s.fld (idChOn c) = 1) ∧ r.vdiv[c] = s.fld (idVdiv c) ∧ r.pos[c] = s.fld (idPos c)

/-- Case 2 of R149: the numbers committed since Nd that have left the ring are passed over. -/
def State.passedOver (u : State) : State :=
  if u.ring.counter ≤ u.disp.nd then u
  else { u with disp := { u.disp with
    nd := u.ring.counter, passed := min 4294967295 (u.disp.passed + (u.ring.counter - u.disp.nd)) } }

/-- R149 and R150: a scheduling point of an IDLE rasteriser, the pin being free, leads from `u` to `t`: the newest record above
Nd is pinned and drawn LIVE; otherwise the numbers that have left the ring are passed over and a pending redraw is taken,
which draws in STOPPED alone. -/
structure DisplayScheduled (u t : State) : Prop where
  live : ∀ x, u.ring.order.getLast? = some x → u.disp.nd < x.number →
    u.ring.order.find? (fun y => y.number == x.number) = some x →
    ∃ r, Drawn u r x .live ∧ t = { u with
      ring := { u.ring with pin := some x.number }
      disp := { u.disp with
        raster := some r, nd := x.number, passed := min 4294967295 (u.disp.passed + (x.number - 1 - u.disp.nd))
        planes := if u.fld idPersist = 0 then Vector.replicate 4 [] else u.disp.planes } }
  idle : ¬Newer u.ring u.disp.nd → u.disp.redraw = false → t = u.passedOver
  running : ¬Newer u.ring u.disp.nd → u.disp.redraw = true → u.acq.st ≠ .stopped →
    t = { u with disp := { u.passedOver.disp with redraw := false } }
  redraw : ¬Newer u.ring u.disp.nd → u.disp.redraw = true → u.acq.st = .stopped →
    ∀ x, u.disp.sel = some x.number ∨ (u.disp.sel = none ∧ u.ring.order.getLast? = some x) →
      u.ring.order.find? (fun y => y.number == x.number) = some x →
      ∃ r, Drawn u r x .redraw ∧ t = { u with
        ring := { u.ring with pin := some x.number }
        disp := { u.passedOver.disp with raster := some r, redraw := false, planes := Vector.replicate 4 [] } }
  absent : ¬Newer u.ring u.disp.nd → u.disp.redraw = true → u.acq.st = .stopped →
    (u.disp.sel = none ∧ u.ring.order = [] ∨
      ∃ n, u.disp.sel = some n ∧ u.ring.order.find? (fun y => y.number == n) = none) →
    t = { u with disp := { u.passedOver.disp with redraw := false, sel := none, planes := Vector.replicate 4 [] } }

/-- R113 and R109: the display ends its pin on record `n`, which leads from `s` to `u`: a claim that waits for a slot is served,
by the lowest EMPTY slot or by that of the oldest record that no lock names, and the slot is offered to the engine within the
same step (log entry 40). A pin that the ring has cancelled is ended already. -/
structure PinEnded (s u : State) (n : Nat) : Prop where
  cancelled : s.ring.pin ≠ some n → u = s
  unclaimed : s.ring.pin = some n → s.ring.waitSlot = false ∨ s.ring.counter = 4294967295 →
    u = { s with ring := { s.ring with pin := none } }
  slot : s.ring.pin = some n → s.ring.waitSlot = true → s.ring.counter ≠ 4294967295 → ∀ i : Nat,
    (∀ j < i, s.ring.slots[j]? ≠ some SlotSt.empty) → s.ring.slots[i]? = some SlotSt.empty →
    SlotTaken { s with
      ring := { s.ring with pin := none, slots := s.ring.slots.set i .filling, waitSlot := false } } u i
  oldest : s.ring.pin = some n → s.ring.waitSlot = true → s.ring.counter ≠ 4294967295 →
    (∀ i : Nat, s.ring.slots[i]? ≠ some SlotSt.empty) → ∀ older x newer, s.ring.order = older ++ x :: newer →
    (∀ y ∈ older, s.ring.locked y.number = true) → s.ring.locked x.number = false →
    SlotTaken { s with
      ring := { s.ring with
        pin := none, order := s.ring.order.filter (fun y => y.number != x.number)
        slots := s.ring.slots.set x.slot .filling, waitSlot := false }
      boxes := { s.boxes with
        measRing := s.boxes.measRing ++ [.discard x.number]
        dispRing := s.boxes.dispRing ++ [.discard x.number] } } u x.slot
  held : s.ring.pin = some n → s.ring.waitSlot = true → s.ring.counter ≠ 4294967295 →
    (∀ i : Nat, s.ring.slots[i]? ≠ some SlotSt.empty) → (∀ y ∈ s.ring.order, s.ring.locked y.number = true) →
    u = { s with ring := { s.ring with pin := none } }

/-- R152: the abandonment of the rasterisation `r` leads from `s`, with the event's effect on the display in `d`, to `t`: the
pin ends, and a scheduling point of the IDLE rasteriser follows (log entry 43). With no claim and no work waiting nothing else
changes. -/
def Abandoned (s : State) (r : Raster) (d : Display) (t : State) : Prop :=
  ∃ u, PinEnded s u r.record ∧
    (s.ring.pin = none ∨ s.ring.pin = some r.record →
      DisplayScheduled { u with freeCtr := s.freeCtr + 1, disp := d } t) ∧
    (s.ring.waitSlot = false ∨ s.ring.pin ≠ some r.record → s.ring.counter ≤ d.nd → ¬Newer s.ring d.nd → d.redraw = false →
      t = { s with
        freeCtr := s.freeCtr + 1, disp := d
        ring := { s.ring with pin := if s.ring.pin = some r.record then none else s.ring.pin } })

/-! ### Runs and reads -/

/-- The commands, carried out one after another, lead from one state to another. -/
def Runs : List Instr → State → State → Prop
  | [], s, t => t = s
  | c :: cs, s, t => ∃ u, exec c s = .next u ∧ Runs cs u t

/-- A request `c` of this code and tag only reads: it is answered OK with a payload of `n` bytes that holds each listed
item, given by its offset, its size in bytes and its value (Table 57, R220), and nothing else changes. -/
def Reads (s : State) (c : Instr) (code tag : Byte) (n : Nat) (items : List (Nat × Nat × Nat)) : Prop :=
  ∃ p : List Byte, exec c s = .next (s.replied code tag .ok p) ∧ p.length = n ∧
    ∀ x ∈ items, argU p x.1 x.2.1 = x.2.2 % 256 ^ x.2.1

/-- R223: the bytes of one whole draw record, by its kind and its count or data length; a kind that the table does not name
stands alone. -/
def WholeRecord (q : List Byte) : Prop :=
  q ≠ [] ∧
    let k := argU q 0 1
    (k = 1 ∨ k = 2 → q.length = 10) ∧ (k = 3 → 8 ≤ q.length ∧ q.length = 8 + argU q 7 1) ∧
      (k = 4 → 13 ≤ q.length ∧ q.length = 13 + argU q 11 2) ∧ (k = 0 ∨ 5 ≤ k → q.length = 1)

/-- R172 and R223: the draw record that the bytes of a whole record stand for; none for an unknown kind, a character count
outside 1..64 and a data length outside 1..480. -/
def RecordOf (q : List Byte) : DrawRec → Prop
  | .fill x0 y0 x1 y1 v =>
    argU q 0 1 = 1 ∧ x0 = argS q 1 2 ∧ y0 = argS q 3 2 ∧ x1 = argS q 5 2 ∧ y1 = argS q 7 2 ∧ v = byte (argU q 9 1)
  | .line x0 y0 x1 y1 v =>
    argU q 0 1 = 2 ∧ x0 = argS q 1 2 ∧ y0 = argS q 3 2 ∧ x1 = argS q 5 2 ∧ y1 = argS q 7 2 ∧ v = byte (argU q 9 1)
  | .text x y fg bg codes =>
    argU q 0 1 = 3 ∧ 1 ≤ argU q 7 1 ∧ argU q 7 1 ≤ 64 ∧ x = argS q 1 2 ∧ y = argS q 3 2 ∧ fg = byte (argU q 5 1) ∧
      bg = byte (argU q 6 1) ∧ codes = q.drop 8
  | .bitmap x y w h fg bg data =>
    argU q 0 1 = 4 ∧ 1 ≤ argU q 11 2 ∧ argU q 11 2 ≤ 480 ∧ x = argS q 1 2 ∧ y = argS q 3 2 ∧ w = argU q 5 2 ∧
      h = argU q 7 2 ∧ fg = byte (argU q 9 1) ∧ bg = byte (argU q 10 1) ∧ data = q.drop 13
  | .present => argU q 0 1 = 5

/-- R16: the values of a stored slot put into their fields: a CHOICE value outside its set gives way to the default, any
other value outside its range is clamped. -/
def Adjusted (stored v : SetupVals) : Prop :=
  ∀ j : Fin 87,
    let f := fieldInfo j
    (f.lo ≤ stored[j] ∧ stored[j] ≤ f.hi → v[j] = stored[j]) ∧ (f.kind ≠ .choice → v[j] = max f.lo (min stored[j] f.hi)) ∧
      (f.kind = .choice → ¬(f.lo ≤ stored[j] ∧ stored[j] ≤ f.hi) → v[j] = f.dflt)

/-! ### Invariants -/

/-- Every value lies in the range or the set of its field (Table 8). -/
def Admitted (v : SetupVals) : Prop := ∀ i : Fin 87, (fieldInfo i).lo ≤ v[i] ∧ v[i] ≤ (fieldInfo i).hi

/-- The Setup Controller: the live setup and all that an undo can restore are admitted (R10, R16), the stack holds at most
16 entries (R19), the generation fits 16 bits (R13). -/
structure SetupInv (s : State) : Prop where
  live : Admitted s.setup.live
  field : ∀ i prev src enc tm, UndoEntry.field i prev src enc tm ∈ s.setup.undo →
    (fieldInfo i).lo ≤ prev ∧ prev ≤ (fieldInfo i).hi
  snapshot : ∀ vals, UndoEntry.snapshot vals ∈ s.setup.undo → Admitted vals
  depth : s.setup.undo.length ≤ 16
  gen : s.setup.gen < 65536

/-- The intensity planes and the overlay buffers are in canonical form and hold no pixel outside the area or the panel
(R147, R168). -/
structure BufferInv (s : State) : Prop where
  planes : ∀ c : Fin 4, s.disp.planes[c].wf = true ∧ ∀ a, 200000 ≤ a → s.disp.planes[c].read a = 0
  bufA : s.ov.bufA.wf = true ∧ ∀ a, 384000 ≤ a → s.ov.bufA.read a = 0
  bufB : s.ov.bufB.wf = true ∧ ∀ a, 384000 ≤ a → s.ov.bufB.read a = 0

/-- The Link Interface: the bounds of its queues (R211 to R215), the always-on kinds of the mask (R217), the saturating
counters, lost notices only behind a full notice queue, nothing left waiting by an idle transmitter (R214), and a DOWN link
that holds nothing (R207); in STANDBY the link is DOWN. -/
structure LinkInv (s : State) : Prop where
  rxq : s.link.rxq.length ≤ 4
  replies : s.link.replies.length + s.link.reservations.length ≤ 8
  notices : s.link.notices.length ≤ 32
  lost : s.link.lost ≤ 65535
  full : s.link.lost ≠ 0 → s.link.notices.length = 32
  mask : s.link.mask &&& 0x0E00#16 = 0x0E00#16
  errors : ∀ k : Fin 6, s.link.errors[k] ≤ 65535
  rate : s.link.rate ∈ [3, 6, 12, 24]
  served : s.link.up = true → s.link.tx = none → s.link.replies = [] ∧ s.link.notices = []
  down : s.link.up = false → s.link.rx = .hunt ∧ s.link.rxq = [] ∧ s.link.replies = [] ∧ s.link.reservations = [] ∧
    s.link.notices = [] ∧ s.link.tx = none ∧ s.link.lost = 0
  standby : s.power.st = .standby → s.link.up = false

/-- The Record Ring and the capture in flight: numbers rise along the ring order up to the counter (R107, R110), each record
holds a HELD slot of its own, the lock table and the pin name records that the ring holds (R106, R113, R114), a slot is
FILLING exactly for the capture in flight or while it is on offer (R108, R109, R111), at most one slot is FILLING (R106), and a
claim that waits belongs to the engine's state (R78, R109). The list of offers is the model's (log entry 40). -/
structure RingInv (s : State) : Prop where
  rise : (s.ring.order.map (·.number)).Pairwise (· < ·)
  numbers : ∀ x ∈ s.ring.order, 1 ≤ x.number ∧ x.number ≤ s.ring.counter
  slots : ∀ x ∈ s.ring.order, s.ring.slots[x.slot]? = some SlotSt.held
  apart : (s.ring.order.map (·.slot)).Nodup
  lock1 : ∀ n, s.ring.lock1 = some n → ∃ x ∈ s.ring.order, x.number = n
  lock2 : ∀ n, s.ring.lock2 = some n → ∃ x ∈ s.ring.order, x.number = n
  pin : ∀ n, s.ring.pin = some n → ∃ x ∈ s.ring.order, x.number = n
  pending : s.ring.geomPending = true → s.ring.anyLock = true ∨ s.ring.filling = true
  flight : s.acq.cap.isSome = s.acq.st.inFlight
  filling : ∀ i : Nat,
    s.ring.slots[i]? = some SlotSt.filling ↔ (∃ c, s.acq.cap = some c ∧ c.slot = i) ∨ i ∈ s.boxes.offers
  one : ∀ i j : Nat, s.ring.slots[i]? = some SlotSt.filling → s.ring.slots[j]? = some SlotSt.filling → i = j
  offers : s.boxes.offers.length ≤ 1 ∧ (s.boxes.offers ≠ [] → s.acq.st = .waitSlot ∧ s.ring.waitSlot = false)
  claim : (s.ring.waitSlot = true → s.acq.st = .waitSlot) ∧
    (s.acq.st = .waitSlot → s.ring.waitSlot = true ∨ s.boxes.offers ≠ [])
  rebuild : s.ring.waitRebuild = true → s.acq.st = .pausedGeometry

/-- The timers and the force of the Acquisition Engine run in their states alone (R85, R87, R88, R93). -/
structure TimerInv (s : State) : Prop where
  stopped : s.acq.st = .stopped → s.acq.pendingForce = false
  auto : s.acq.autoEnd ≠ none → s.acq.st = .armed
  holdoff : s.acq.holdoffEnd ≠ none → s.acq.st = .preFill
  failFlag : s.meas.failFlag = true → s.acq.st ≠ .stopped

/-- The comparator runs in ON and SHUTTING_DOWN, acquisition runs in ON alone, and so every capture in flight has a running
comparator (R92, R101, R201); the two flags of an EDGE comparator are never set together (R83). -/
structure RunInv (s : State) : Prop where
  running : s.power.st = .on ∨ s.power.st = .shuttingDown → s.acq.cmp.running = true
  started : s.acq.st ≠ .stopped → s.power.st = .on
  primed : s.acq.cmp.risePrimed = false ∨ s.acq.cmp.fallPrimed = false

/-- The Front-End Controller: the readiness last presented is the readiness of R63, so that no change of it goes unannounced;
the ready wait runs in WAIT_READY alone, the port and the settle timer in UP alone (R60, R62, R64, R67). -/
structure FrontInv (s : State) : Prop where
  shown : s.fe.readyShown = s.feReadyNow
  wait : s.fe.waitEnd.isSome = true ↔ s.fe.cond = .waitReady
  port : s.fe.port.isSome = true → s.fe.cond = .up
  settle : s.fe.settleEnd.isSome = true → s.fe.cond = .up
  standby : s.power.st = .standby → s.fe.cond = .off ∨ (s.fe.cond = .up ∧ ∃ x, s.fe.port = some x ∧ x.final = true)
  final : ∀ x, s.fe.port = some x → x.final = true → s.power.st = .standby

/-- The gate last presented is the gate of R138, so that no opening goes unannounced. -/
def GateInv (s : State) : Prop := s.meas.gateShut = s.gateShutNow

end Sys2Proof.Machine
end

