-- ==== Sys2Proof/Certificates/Slice0/Obligations.lean ====
section
/-! DEFINITION. The statements for the provers. -/

open Sys2Proof Sys2Proof.Machine

/-! ### The machine and the dispatcher -/

/-- A step takes the command at the front of the queue and carries it out with the queue's rest. The queue is the model's
(log entry 1). -/
def Obligations.StepRunsTheFrontCommand : Prop :=
  ∀ (c : Instr) (rest : List Instr) (s : State), s.pending = c :: rest → step s = exec c { s with pending := rest }

/-- No command faults or is refused, and none touches the queue of commands that wait. That a command whose event cannot
occur leaves the state as it is, in place of a fault, is the model's choice (log entry 5). -/
def Obligations.EveryCommandCompletes : Prop :=
  ∀ (c : Instr) (s : State), ∃ t, exec c s = .next t ∧ t.pending = s.pending

/-- A request that the dispatcher cannot take now changes nothing: the model's way to say that its frame waits (log
entry 5). When a request row stands for an arriving frame is log entry 15.

Step 2 of R212, for every request of Table 52: a payload of a length that the table does not allow is answered
BAD_LENGTH with an empty payload, and nothing else happens.

Step 1 of R212: a code that names no request is answered BAD_CODE with an empty payload, whatever the payload's
length. -/
def Obligations.DispatcherAnswersFaultyRequests : Prop :=
  (∀ (c : Instr) (f : Frame) (s : State), c.frame = some f → s.takes f.code f.tag f.payload = false → exec c s = .next s) ∧
  (∀ (c : Instr) (f : Frame) (allowed : Nat → Bool) (s : State), (∀ tag code p, c ≠ .dispatchBadCode tag code p) →
     c.frame = some f → allowedLength f.code = some allowed → allowed f.payload.length = false →
     s.takes f.code f.tag f.payload = true → exec c s = .next (s.replied f.code f.tag .badLength [])) ∧
  (∀ (tag code : Byte) (p : List Byte) (s : State), code.toNat ∉ requestCodes → s.takes code tag p = true →
     exec (.dispatchBadCode tag code p) s = .next (s.replied code tag .badCode []))

/-- R212 and R214: a reply that enters the reply queue of an UP link goes out at once when the transmitter is idle and no
reply waits; while a frame is in transmission it waits as the newest.

R215: what becomes of an offered notice in each of the four conditions, while a frame is in transmission.

R214 and R215: at the end of a frame the arbiter takes the oldest reply, else the oldest notice, whose freed place
takes a NOTICES_LOST notice while the lost-notice count is above 0, else the transmitter goes idle. That the clock
then stands at the event's due time is the model's choice (log entry 6). A transmission time is rounded up to whole
nanoseconds (log entry 29).

What a completed reservation does (R213): the reply takes the reserved place as the newest and the reservation ends; a
reply whose reservation has been cancelled is discarded. -/
def Obligations.TransmitterServesTheQueues : Prop :=
  (∀ (s : State) (r : Reply), s.link.up = true →
     (s.link.tx = none → s.link.replies = [] →
       s.pushReply r =
         { s with link := { s.link with
             tx := some ⟨r.frame, s.clock.now + frameTime s.link.rate r.payload.length⟩ } }) ∧
     (s.link.tx.isSome = true →
       s.pushReply r = { s with link := { s.link with replies := s.link.replies ++ [r] } })) ∧
  (∀ (s : State) (n : Notice),
     ((s.link.up = false ∨ s.link.mask.getLsbD n.ix = false) → s.offer n = s) ∧
     (s.link.up = true → s.link.mask.getLsbD n.ix = true → s.link.notices.length < 32 → s.link.tx.isSome = true →
       s.offer n = { s with link := { s.link with notices := s.link.notices ++ [n] } }) ∧
     (s.link.up = true → s.link.mask.getLsbD n.ix = true → 32 ≤ s.link.notices.length →
       s.offer n = { s with link := { s.link with lost := min 65535 (s.link.lost + 1) } })) ∧
  (∀ (s : State) (x : Transmission), s.link.up = true → s.link.tx = some x →
     ∃ t, exec .transmitFrameEnd s = .next t ∧ Changes [.clock, .link] s t ∧ t.clock.now = max s.clock.now x.endAt ∧
       t.clock.epoch = s.clock.epoch ∧
       (∀ r rs, s.link.replies = r :: rs →
         t.link = { s.link with
           replies := rs, tx := some ⟨r.frame, t.clock.now + frameTime s.link.rate r.payload.length⟩ }) ∧
       (∀ n ns, s.link.replies = [] → s.link.notices = n :: ns →
         t.link = { s.link with
           notices := if s.link.lost = 0 then ns else ns ++ [.noticesLost s.link.lost], lost := 0
           tx := some ⟨n.frame, t.clock.now + frameTime s.link.rate n.payload.length⟩ }) ∧
       (s.link.replies = [] → s.link.notices = [] → t.link = { s.link with tx := none })) ∧
  (∀ (s : State) (code tag : Byte) (st : Status) (p : List Byte) (l r : List Reservation),
     ((∀ x ∈ s.link.reservations, x.code ≠ code) → s.completeLong code st p = s) ∧
     (s.link.reservations = l ++ ⟨tag, code⟩ :: r → (∀ x ∈ l, x.code ≠ code) → s.link.tx.isSome = true →
       s.completeLong code st p = { s with
         link := { s.link with
           reservations := l ++ r, replies := s.link.replies ++ [⟨tag, code, st, p⟩] } }))

/-! ### The live setup -/

/-- R23 under R10 to R12: the five cases of SET_FIELD, with everything the request leaves alone. -/
def Obligations.SetFieldFollowsItsTable : Prop :=
  ∀ (tag : Byte) (p : List Byte) (s : State), p.length = 10 → s.takes 0x01 tag p = true →
    let id := (entryAt p 0).1
    let v := (entryAt p 0).2
    (fieldIx id = none → exec (.setField tag p) s = .next (s.replied 0x01 tag .badField (entryBytes id 0))) ∧
    ∀ i, fieldIx id = some i →
      let f := fieldInfo i
      let old := s.setup.live[i]
      let w := max f.lo (min v f.hi)
      let status := if f.lo ≤ v ∧ v ≤ f.hi then Status.ok else Status.clamped
      (f.kind = .choice → ¬(f.lo ≤ v ∧ v ≤ f.hi) →
        exec (.setField tag p) s = .next (s.replied 0x01 tag .badValue (entryBytes id old))) ∧
      ((f.kind = .choice → f.lo ≤ v ∧ v ≤ f.hi) → w = old →
        exec (.setField tag p) s = .next (s.replied 0x01 tag status (entryBytes id old))) ∧
      ((f.kind = .choice → f.lo ≤ v ∧ v ≤ f.hi) → w ≠ old →
        ∃ t, exec (.setField tag p) s = .next t ∧
          t.setup.live = s.setup.live.set i w ∧ t.setup.gen = nextGen s.setup.gen ∧
          t.setup.undo = pushUndo s.setup.undo (.field i old .host none s.msNow) ∧
          Announced s t ⟨[⟨f.id, old, w⟩], false, .host, t.setup.gen⟩ ∧
          t.link = (s.replied 0x01 tag status (entryBytes id w)).link ∧ SetupFrame s t)

/-- R24: GET_FIELD and GET_GROUP answer from the live setup as it stands and change no state.

R27: GET_UNDO_DEPTH reports the depth and the top entry and changes no state. -/
def Obligations.SetupReadsAnswer : Prop :=
  (∀ (tag : Byte) (p : List Byte) (s : State),
     (p.length = 2 → s.takes 0x02 tag p = true →
       (∀ i, fieldIx (argU p 0 2) = some i →
         exec (.getField tag p) s = .next (s.replied 0x02 tag .ok (entryBytes (argU p 0 2) s.setup.live[i]))) ∧
       (fieldIx (argU p 0 2) = none → exec (.getField tag p) s = .next (s.replied 0x02 tag .badField []))) ∧
     (p.length = 1 → s.takes 0x03 tag p = true →
       (argU p 0 1 ≤ 13 →
         ∃ l : List (Fin 87), (l.map (fun i => (fieldInfo i).id)).Pairwise (· < ·) ∧
           (∀ i, i ∈ l ↔ groupOf (fieldInfo i).id = argU p 0 1) ∧
           exec (.getGroup tag p) s = .next (s.replied 0x03 tag .ok
             (leBytes 2 s.setup.gen ++ l.flatMap (fun i => entryBytes (fieldInfo i).id s.setup.live[i])))) ∧
       (13 < argU p 0 1 → exec (.getGroup tag p) s = .next (s.replied 0x03 tag .badValue [])))) ∧
  (∀ (tag : Byte) (s : State), s.takes 0x07 tag [] = true →
     (s.setup.undo = [] → exec (.getUndoDepth tag []) s = .next (s.replied 0x07 tag .ok [0, 0, 0, 0, 0])) ∧
     (∀ rest (i : Fin 87) prev src e tm, s.setup.undo = rest ++ [.field i prev src e tm] →
       exec (.getUndoDepth tag []) s = .next (s.replied 0x07 tag .ok
         ([byte (rest.length + 1), 1] ++ leBytes 2 (fieldInfo i).id ++ [byte src.code]))) ∧
     (∀ rest vals, s.setup.undo = rest ++ [.snapshot vals] →
       exec (.getUndoDepth tag []) s = .next (s.replied 0x07 tag .ok [byte (rest.length + 1), 2, 0, 0, 0])))

/-- R25: SET_GROUP. A group outside 0..13 is refused; otherwise the first faulty entry decides the refusal; otherwise the
listed values, clamped, are written as one replacement, which is announced to the blocks of the changed fields' classes (R9,
R16), and the reply carries them in request order. An entry is sound when
its id names a field of the group and, for a CHOICE field, its value lies in the set. -/
def Obligations.SetGroupFollowsItsChecks : Prop :=
  ∀ (tag : Byte) (p : List Byte) (s : State), groupLen p.length = true → s.takes 0x04 tag p = true →
    let g := argU p 0 1
    let es := entriesAt p 1 ((p.length - 1) / 10)
    let belongs (e : Nat × Int) : Prop := groupOf e.1 = g ∧ fieldIx e.1 ≠ none
    let inSet (e : Nat × Int) : Prop :=
      ∀ i, fieldIx e.1 = some i → (fieldInfo i).kind = .choice → (fieldInfo i).lo ≤ e.2 ∧ e.2 ≤ (fieldInfo i).hi
    let applied (e : Nat × Int) : Int :=
      match fieldIx e.1 with
      | some i => max (fieldInfo i).lo (min e.2 (fieldInfo i).hi)
      | none => 0
    let sound (l : List (Nat × Int)) : Prop := (∀ e ∈ l, belongs e ∧ inSet e) ∧ (l.map (·.1)).Nodup
    (13 < g → exec (.setGroup tag p) s = .next (s.replied 0x04 tag .badValue [])) ∧
    (g ≤ 13 → ∀ pre e post, es = pre ++ e :: post → sound pre →
      ((¬belongs e ∨ e.1 ∈ pre.map (·.1)) →
        exec (.setGroup tag p) s = .next (s.replied 0x04 tag .badField (leBytes 2 e.1))) ∧
      (belongs e → e.1 ∉ pre.map (·.1) → ¬inSet e →
        exec (.setGroup tag p) s = .next (s.replied 0x04 tag .badValue (leBytes 2 e.1)))) ∧
    (g ≤ 13 → sound es →
      ∃ (t : State) (v : SetupVals), exec (.setGroup tag p) s = .next t ∧
        (∀ i : Fin 87, (∀ e ∈ es, fieldIx e.1 ≠ some i) → v[i] = s.setup.live[i]) ∧
        (∀ i : Fin 87, ∀ e ∈ es, fieldIx e.1 = some i → v[i] = applied e) ∧
        t.setup = (if v = s.setup.live then s.setup
          else ⟨v, nextGen s.setup.gen, pushUndo s.setup.undo (.snapshot s.setup.live)⟩) ∧
        t.link = (s.replied 0x04 tag (if ∀ e ∈ es, applied e = e.2 then .ok else .clamped)
          (es.flatMap (fun e => entryBytes e.1 (applied e)))).link ∧
        (v = s.setup.live → Changes [.link] s t) ∧
        (v ≠ s.setup.live → Announced s t ⟨changesTo s.setup.live v, false, .host, nextGen s.setup.gen⟩) ∧ SetupFrame s t)

/-- R26: DEFAULT_SETUP replaces the live setup by the defaults of Table 8 as one change that an undo can take back; with
the defaults in place already it changes nothing (R17).

R22 and R27: UNDO takes the top entry off the stack, restores what it holds, announces what changed (R9) and says so in
the reply.

R22 and R26: an UNDO right after a DEFAULT_SETUP that changed something restores the setup that was there before.

That the notice of an applied request is offered before its reply is queued is the model's choice (log entry 38). -/
def Obligations.DefaultSetupAndUndoReplaceTheSetup : Prop :=
  (∀ (tag : Byte) (s : State), s.takes 0x05 tag [] = true →
     (s.setup.live = defaultVals → exec (.defaultSetup tag []) s = .next (s.replied 0x05 tag .ok [])) ∧
     (s.setup.live ≠ defaultVals →
       ∃ t, exec (.defaultSetup tag []) s = .next t ∧
         t.setup = ⟨defaultVals, nextGen s.setup.gen, pushUndo s.setup.undo (.snapshot s.setup.live)⟩ ∧
         Announced s t ⟨changesTo s.setup.live defaultVals, false, .dflt, nextGen s.setup.gen⟩ ∧
         t.link = ((s.takeFrame.offer (.setupReplaced .dflt (nextGen s.setup.gen) .normal)).pushReply
           ⟨tag, 0x05, .ok, []⟩).link ∧ SetupFrame s t)) ∧
  (∀ (tag : Byte) (s : State), s.takes 0x06 tag [] = true →
     (s.setup.undo = [] → exec (.undo tag []) s = .next (s.replied 0x06 tag .nothingToUndo [])) ∧
     (∀ rest (i : Fin 87) prev src e tm, s.setup.undo = rest ++ [.field i prev src e tm] →
       ∃ t, exec (.undo tag []) s = .next t ∧
         t.setup = ⟨s.setup.live.set i prev,
           if s.setup.live[i] = prev then s.setup.gen else nextGen s.setup.gen, rest⟩ ∧
         t.link = ((if s.setup.live[i] = prev then s.takeFrame
             else s.takeFrame.offer (.setupChanged (fieldInfo i).id prev .undo (nextGen s.setup.gen))).pushReply
           ⟨tag, 0x06, .ok, [1#8] ++ entryBytes (fieldInfo i).id prev⟩).link ∧
         (s.setup.live[i] = prev → Changes [.setup, .link] s t) ∧
         (s.setup.live[i] ≠ prev →
           Announced s t ⟨[⟨(fieldInfo i).id, s.setup.live[i], prev⟩], false, .undo, nextGen s.setup.gen⟩) ∧
         SetupFrame s t) ∧
     (∀ rest vals, s.setup.undo = rest ++ [.snapshot vals] →
       ∃ t, exec (.undo tag []) s = .next t ∧
         t.setup = ⟨vals, if vals = s.setup.live then s.setup.gen else nextGen s.setup.gen, rest⟩ ∧
         t.link = ((if vals = s.setup.live then s.takeFrame
             else s.takeFrame.offer (.setupReplaced .undo (nextGen s.setup.gen) .normal)).pushReply
           ⟨tag, 0x06, .ok, [2#8]⟩).link ∧
         (vals = s.setup.live → Changes [.setup, .link] s t) ∧
         (vals ≠ s.setup.live → Announced s t ⟨changesTo s.setup.live vals, false, .undo, nextGen s.setup.gen⟩) ∧
         SetupFrame s t)) ∧
  (∀ (tag tag' : Byte) (s t u : State), s.setup.live ≠ defaultVals → s.takes 0x05 tag [] = true →
     exec (.defaultSetup tag []) s = .next t → t.takes 0x06 tag' [] = true → exec (.undo tag' []) t = .next u →
     u.setup.live = s.setup.live ∧ u.setup.gen = nextGen (nextGen s.setup.gen) ∧
       (s.setup.undo.length < 16 → u.setup.undo = s.setup.undo))

/-! ### The front panel -/

/-- R29 to R31: what one scan makes of each scanned position, and the recognised changes, which wait in increasing
position order. R39: a recognised PRESS carries the action that the key action table holds at the scan. That the clock then stands at the event's due time is the model's choice (log entry 6). The list of
recognised changes between the scan and the commands that treat them is the model's (log entry 35), and so is the scan as
the moment at which the scanner takes the announcements of the Setup Controller, which have no effect of their own (log
entry 39). -/
def Obligations.ScanDebouncesEveryKey : Prop :=
  ∀ (raw : BitVec 64) (s : State),
    ∃ t l, exec (.keyScan raw) s = .next t ∧ Changes [.clock, .panel, .boxes] s t ∧
      t.boxes = { s.boxes with panel := [] } ∧
      t.panel = { s.panel with
        keys := t.panel.keys, due := s.panel.due ++ l, scanAt := s.panel.scanAt + 1000000 } ∧
      t.clock = { s.clock with now := max s.clock.now s.panel.scanAt } ∧
      (l.map (fun d => d.pos.val)).Pairwise (· < ·) ∧ (∀ d ∈ l, d.time = t.msTime) ∧
      (∀ d ∈ l, d.action = if d.press = true then s.panel.actions[d.pos].action else .none) ∧
      ∀ p : Fin 64,
        let k := s.panel.keys[p]
        let d := raw.getLsbD p.val
        let k' := t.panel.keys[p]
        let pressed := ∃ x ∈ l, x.pos = p ∧ x.press = true
        let released := ∃ x ∈ l, x.pos = p ∧ x.press = false
        let ghost := ∃ q₁ q₂ q₃ : Fin 64, q₁.val / 8 = p.val / 8 ∧ q₂.val % 8 = p.val % 8 ∧ q₃.val / 8 = q₂.val / 8 ∧
          q₃.val % 8 = q₁.val % 8 ∧ q₁ ≠ p ∧ q₂ ≠ p ∧ s.panel.keys[q₁].down = true ∧ s.panel.keys[q₂].down = true ∧
          s.panel.keys[q₃].down = true
        let downNow : KeyState :=
          ⟨true, 0, false, if 17 ≤ p.val ∧ p.val ≤ 34 then some (t.clock.now + 400000000) else none⟩
        (s.power.st = .standby → p ≠ 0 → k' = k ∧ ¬pressed ∧ ¬released) ∧
        (s.power.st ≠ .standby ∨ p = 0 →
          (k.pendingGhost = false → d = k.down → k' = { k with count := 0 } ∧ ¬pressed ∧ ¬released) ∧
          (k.pendingGhost = false → d ≠ k.down → k.count < 4 →
            k' = { k with count := k.count + 1 } ∧ ¬pressed ∧ ¬released) ∧
          (k.pendingGhost = false → d ≠ k.down → 4 ≤ k.count → k.down = true →
            k' = ⟨false, 0, false, none⟩ ∧ ¬pressed ∧ released) ∧
          (k.pendingGhost = false → d ≠ k.down → 4 ≤ k.count → k.down = false → ¬ghost →
            k' = downNow ∧ pressed ∧ ¬released) ∧
          (k.pendingGhost = false → d ≠ k.down → 4 ≤ k.count → k.down = false → ghost →
            k' = { k with count := 5, pendingGhost := true } ∧ ¬pressed ∧ ¬released) ∧
          (k.pendingGhost = true → d = false →
            k' = { k with count := 0, pendingGhost := false } ∧ ¬pressed ∧ ¬released) ∧
          (k.pendingGhost = true → d = true → ghost → k' = k ∧ ¬pressed ∧ ¬released) ∧
          (k.pendingGhost = true → d = true → ¬ghost → k' = downNow ∧ pressed ∧ ¬released))

/-- R33 and R35: a RELEASE and a REPEAT go into the key event queue when the key's report flag is on, and do nothing else;
a full queue loses its newest event to the arrival. That the clock then stands at the event's due time is the model's
choice (log entry 6). So is the list of recognised changes, from which the commands treat the oldest, with the report flag, the power
state and the click taken at the treatment and no REPEAT before the PRESS is treated (log entry 35).

R33, R39 and R53: a PRESS of a position other than 0 is queued, fires the action read at its recognition in the state ON
alone, and with KEYCLICK on asks for a KEY click, which an equal or higher tone that plays turns away.

R40 and R41: what each key action does, in the terms of the requests that do the same; UNDO takes the top entry off the
stack and applies what it holds (R22). Position 0 is the Power Controller's, in a statement of its own. A field change so
applied is announced and told to the host (R9, R11, R14), and so is a replacement (R16); the value in place already changes
nothing (R12).

R42: LEVEL_TO_MID proposes the middle of the newest record's window values on the TSRC channel, 0 for EXT, for an empty
ring and for a channel that the record does not hold. -/
def Obligations.KeyEventsAreQueuedAndAct : Prop :=
  (∀ (p : Fin 64) (s : State),
     let queued (k : KeyEvKind) (tm : Nat) : List KeyEvent :=
       if s.panel.actions[p].report = false then s.panel.queue
       else if s.panel.queue.length < 16 then s.panel.queue ++ [⟨p, k, tm, false⟩]
       else s.panel.queue.dropLast ++ [⟨p, k, tm, true⟩]
     (∀ tm a rest, p ≠ 0 → s.panel.due = ⟨p, false, tm, a⟩ :: rest →
       exec (.keyRelease p) s =
         .next { s with panel := { s.panel with due := rest, queue := queued .release tm } }) ∧
     (∀ e, s.panel.keys[p].repeatAt = some e → (∀ d ∈ s.panel.due, d.pos ≠ p) →
       ∃ t, exec (.keyRepeat p) s = .next t ∧ t.clock = { s.clock with now := max s.clock.now e } ∧
         t = { s with
           clock := t.clock
           panel := { s.panel with
             keys := s.panel.keys.set p { s.panel.keys[p] with repeatAt := some (e + 80000000) }
             queue := queued .repeated t.msTime } })) ∧
  (∀ (p : Fin 64) (tm : Nat) (a : KeyAction) (rest : List KeyDue) (s : State), p ≠ 0 →
     s.panel.due = ⟨p, true, tm, a⟩ :: rest →
     let q : List KeyEvent :=
       if s.panel.actions[p].report = false then s.panel.queue
       else if s.panel.queue.length < 16 then s.panel.queue ++ [⟨p, .press, tm, false⟩]
       else s.panel.queue.dropLast ++ [⟨p, .press, tm, true⟩]
     let s1 : State := { s with panel := { s.panel with due := rest, queue := q } }
     let s2 := if s.power.st = .on then s1.fireAction a else s1
     let clicks := s2.fld idKeyclick = 1 ∧ ∀ x, s.panel.tone = some x → x.rank = 0
     ∃ t, exec (.keyPress p) s = .next t ∧
       (¬clicks → t = s2) ∧
       (clicks → t = { s2 with panel := { s2.panel with tone := some ⟨1, 4000, s2.clock.now + 3000000⟩ } }) ∧
       (a = .none → s2 = s1)) ∧
  (∀ (s : State),
     s.fireAction .none = s ∧
     (s.acq.st ≠ .stopped → s.fireAction .runStop = s.stopAcq .stop .key) ∧
     (s.acq.st = .stopped → s.power.st = .on → s.acq.fault = false → s.fireAction .runStop = s.runAs .run .key) ∧
     (s.acq.st = .stopped → s.acq.fault = true → s.fireAction .runStop = s) ∧
     (s.power.st = .on → s.acq.fault = false → s.fireAction .single = s.runAs .single .key) ∧
     (s.acq.fault = true → s.fireAction .single = s) ∧
     s.fireAction .forceTrigger = s.force.2 ∧
     s.fireAction .defaultSetup = s.replaceSetup defaultVals .dflt .normal ∧
     (s.setup.undo = [] → s.fireAction .undo = s) ∧
     (∀ rest (i : Fin 87) prev src e tm, s.setup.undo = rest ++ [.field i prev src e tm] →
       s.fireAction .undo =
         ({ s with setup := { s.setup with undo := rest } } : State).applyField i prev .undo none) ∧
     (∀ rest vals, s.setup.undo = rest ++ [.snapshot vals] →
       s.fireAction .undo =
         ({ s with setup := { s.setup with undo := rest } } : State).replaceSetup vals .undo .normal) ∧
     (∀ (c : Fin 4) (i : Fin 87), fieldIx (idPos c) = some i → s.fireAction (.positionZero c) = s.applyField i 0 .key none) ∧
     (∀ (c : Fin 4) (i : Fin 87), fieldIx (idChOn c) = some i → s.setup.live[i] = 0 →
       s.fireAction (.channelToggle c) = s.applyField i 1 .key none) ∧
     (∀ (c : Fin 4) (i : Fin 87), fieldIx (idChOn c) = some i → s.setup.live[i] = 1 →
       s.fireAction (.channelToggle c) = s.applyField i 0 .key none) ∧
     (∀ i : Fin 87, fieldIx 63 = some i →
       (s.fld 60 = 4 → s.fireAction .levelToMid = s.applyField i 0 .key none) ∧
       (s.ring.order = [] → s.fireAction .levelToMid = s.applyField i 0 .key none) ∧
       (∀ (c : Fin 4) (x : Record), s.fld 60 = (c.val : Int) → s.ring.order.getLast? = some x →
         (x.chans[c].on = false → s.fireAction .levelToMid = s.applyField i 0 .key none) ∧
         (∀ mx mn : Int, x.chans[c].on = true →
           let value (v : Int) : Prop := ∃ row ∈ (x.points.drop x.geom.start).take x.geom.p,
             v = row[c].lo ∨ (x.mode = 1 ∧ v = row[c].hi)
           value mx → value mn → (∀ v, value v → mn ≤ v ∧ v ≤ mx) → -512 ≤ mn → mx ≤ 511 →
           s.fireAction .levelToMid = s.applyField i ((mx + mn) / 2) .key none)))) ∧
  (∀ (s : State) (i : Fin 87) (v : Int) (src : Source), src = .key ∨ src = .undo →
     (s.setup.live[i] = v → s.applyField i v src none = s) ∧
     (s.setup.live[i] ≠ v → PanelChange s (s.applyField i v src none) i v src ∧
       (s.applyField i v src none).setup.undo = if src = .undo then s.setup.undo
         else pushUndo s.setup.undo (.field i s.setup.live[i] .key none s.msNow))) ∧
  (∀ (s : State) (vals : SetupVals) (src : Source), src = .dflt ∨ src = .undo →
     let t := s.replaceSetup vals src .normal
     (s.setup.live = vals → t = s) ∧
     (s.setup.live ≠ vals →
       t.setup = ⟨vals, nextGen s.setup.gen,
         if src = .undo then s.setup.undo else pushUndo s.setup.undo (.snapshot s.setup.live)⟩ ∧
       Announced s t ⟨changesTo s.setup.live vals, false, src, nextGen s.setup.gen⟩ ∧
       t.link = (s.offer (.setupReplaced src (nextGen s.setup.gen) .normal)).link ∧ SetupFrame s t))

/-- R37: GET_KEYS answers the oldest events, up to 16, and removes them.

R43: SET_KEY_ACTION replaces an entry other than entry 0, or is refused; GET_KEY_ACTION reads an entry back.

R49: SET_BINDING with its checks in order, and GET_BINDING. -/
def Obligations.PanelTablesAreSetAndRead : Prop :=
  (∀ (tag : Byte) (s : State), s.takes 0x10 tag [] = true →
     let evs := s.panel.queue.take 16
     let one' (e : KeyEvent) : List Byte :=
       [byte e.pos.val, byte e.kind.code] ++ leBytes 4 e.time ++ [if e.lostBefore then 1 else 0]
     exec (.getKeys tag []) s =
       .next { s.replied 0x10 tag .ok (byte evs.length :: evs.flatMap one') with
         panel := { s.panel with queue := s.panel.queue.drop 16 } }) ∧
  (∀ (tag : Byte) (p : List Byte) (s : State),
     let pos := argU p 0 1
     let ch := argU p 2 1
     let flag := decide (argU p 3 1 ≠ 0)
     (p.length = 4 → s.takes 0x11 tag p = true →
       (pos = 0 ∨ 63 < pos ∨ 8 < argU p 1 1 ∨ ((argU p 1 1 = 6 ∨ argU p 1 1 = 8) ∧ ¬(1 ≤ ch ∧ ch ≤ 4)) →
         exec (.setKeyAction tag p) s = .next (s.replied 0x11 tag .badValue [])) ∧
       (∀ (q : Fin 64) (a : KeyAction), q ≠ 0 → q.val = pos → a.code = argU p 1 1 →
         a.channel = (if argU p 1 1 = 6 ∨ argU p 1 1 = 8 then ch else 0) →
         exec (.setKeyAction tag p) s =
           .next { s.replied 0x11 tag .ok [] with
             panel := { s.panel with actions := s.panel.actions.set q ⟨a, flag⟩ } })) ∧
     (p.length = 1 → s.takes 0x12 tag p = true →
       (63 < pos → exec (.getKeyAction tag p) s = .next (s.replied 0x12 tag .badValue [])) ∧
       (∀ q : Fin 64, q.val = pos →
         exec (.getKeyAction tag p) s = .next (s.replied 0x12 tag .ok
           [byte pos, byte s.panel.actions[q].action.code, byte s.panel.actions[q].action.channel,
             if s.panel.actions[q].report then 1 else 0])))) ∧
  (∀ (tag : Byte) (p : List Byte) (s : State),
     let enc := argU p 0 1
     let id := argU p 1 2
     let step := argU p 3 1
     (p.length = 5 → s.takes 0x13 tag p = true →
       (11 < enc → exec (.setBinding tag p) s = .next (s.replied 0x13 tag .badValue [])) ∧
       (enc ≤ 11 → id ≠ 0 → fieldIx id = none →
         exec (.setBinding tag p) s = .next (s.replied 0x13 tag .badField [])) ∧
       (enc ≤ 11 → (id = 0 ∨ fieldIx id ≠ none) → (step < 1 ∨ 100 < step) →
         exec (.setBinding tag p) s = .next (s.replied 0x13 tag .badValue [])) ∧
       (∀ e : Fin 12, e.val = enc → (id = 0 ∨ fieldIx id ≠ none) → 1 ≤ step → step ≤ 100 →
         exec (.setBinding tag p) s =
           .next { s.replied 0x13 tag .ok [] with
             panel := { s.panel with
               bindings := s.panel.bindings.set e ⟨fieldIx id, step, decide (argU p 4 1 ≠ 0)⟩ } })) ∧
     (p.length = 1 → s.takes 0x14 tag p = true →
       (11 < enc → exec (.getBinding tag p) s = .next (s.replied 0x14 tag .badValue [])) ∧
       (∀ e : Fin 12, e.val = enc →
         exec (.getBinding tag p) s = .next (s.replied 0x14 tag .ok
           ([byte enc] ++ leBytes 2 (match s.panel.bindings[e].field with
             | some i => (fieldInfo i).id
             | none => 0) ++ [byte s.panel.bindings[e].step, if s.panel.bindings[e].accel then 1 else 0])))))

/-- R44 and R45: a transition of the phase pair of an encoder. One step forward or backward in the sequence 00, 01, 11, 10
moves the sub-detent count; the fourth in one direction is a detent, which opens a window or adds to the open one; a
change of both phases is counted as illegal; in STANDBY the encoder is not sampled.

R45, R47 and R48: the end of an encoder window: without effect outside ON and for a count of 0; a KNOB notice for an
unbound encoder; for a bound one a KNOB change by the multiplied count, clamped, or an END click at an end already
held.

R9, R11, R14, R20 and R21: a KNOB change writes the value, is announced and told to the host; it merges into the top undo
entry when that is of the same field and encoder and at most a second old; otherwise it pushes an entry, and a full stack
loses its oldest. That the clock then stands at the event's
due time is the model's choice (log entry 6). That a detent adds to the open window until its end is treated, even after
its 20 ms, is log entry 31; that the merging second is measured on the clock without the 32-bit wrap is log entry 33. -/
def Obligations.EncodersCountAndApply : Prop :=
  (∀ (e : Fin 12) (a b : Bool) (s : State),
     let x := s.panel.encs[e]
     let forward := (a = x.refB ∧ b ≠ x.refA)
     let backward := (a ≠ x.refB ∧ b = x.refA)
     let both := (a ≠ x.refA ∧ b ≠ x.refB)
     let ref := { x with refA := a, refB := b }
     let detent (d : Int) : Encoder := { ref with
       sub := 0
       window := match x.window with
         | none => some ⟨s.clock.now + 20000000, d⟩
         | some w => some ⟨w.endAt, w.count + d⟩ }
     let at' (y : Encoder) : State := { s with
       pins := { s.pins with encA := s.pins.encA.set e a, encB := s.pins.encB.set e b }
       panel := { s.panel with encs := s.panel.encs.set e y } }
     (s.power.st = .standby →
       exec (.encoderTransition e a b) s =
         .next { s with pins := { s.pins with encA := s.pins.encA.set e a, encB := s.pins.encB.set e b } }) ∧
     (s.power.st ≠ .standby →
       (a = x.refA → b = x.refB → exec (.encoderTransition e a b) s = .next (at' x)) ∧
       (both → exec (.encoderTransition e a b) s = .next (at' { ref with illegal := min 65535 (x.illegal + 1) })) ∧
       (¬both → forward → x.sub ≠ 3 → exec (.encoderTransition e a b) s = .next (at' { ref with sub := x.sub + 1 })) ∧
       (¬both → forward → x.sub = 3 → exec (.encoderTransition e a b) s = .next (at' (detent 1))) ∧
       (¬both → backward → x.sub ≠ -3 → exec (.encoderTransition e a b) s = .next (at' { ref with sub := x.sub - 1 })) ∧
       (¬both → backward → x.sub = -3 → exec (.encoderTransition e a b) s = .next (at' (detent (-1)))))) ∧
  (∀ (e : Fin 12) (w : Window) (s : State), s.panel.encs[e].window = some w →
     let s1 : State := { s with
       clock := { s.clock with now := max s.clock.now w.endAt }
       panel := { s.panel with encs := s.panel.encs.set e { s.panel.encs[e] with window := none } } }
     let b := s.panel.bindings[e]
     (s.power.st ≠ .on ∨ w.count = 0 → exec (.encoderWindowEnd e) s = .next s1) ∧
     (s.power.st = .on → w.count ≠ 0 → b.field = none →
       exec (.encoderWindowEnd e) s = .next (s1.offer (.knob e w.count s1.msTime))) ∧
     (s.power.st = .on → w.count ≠ 0 → ∀ i, b.field = some i →
       let f := fieldInfo i
       let n := w.count.natAbs
       let m : Int := if f.kind = .number ∧ b.accel = true then (if n ≤ 2 then 1 else if n ≤ 5 then 4 else 16) else 1
       let v := max f.lo (min (s.setup.live[i] + w.count * m * b.step) f.hi)
       (v ≠ s.setup.live[i] → exec (.encoderWindowEnd e) s = .next (s1.applyField i v .knob (some e))) ∧
       (v = s.setup.live[i] → (∀ x, s.panel.tone = some x → x.rank = 0) →
         exec (.encoderWindowEnd e) s =
           .next { s1 with panel := { s1.panel with tone := some ⟨1, 1000, s1.clock.now + 10000000⟩ } }) ∧
       (v = s.setup.live[i] → (∃ x, s.panel.tone = some x ∧ 1 ≤ x.rank) → exec (.encoderWindowEnd e) s = .next s1))) ∧
  (∀ (s : State) (i : Fin 87) (v : Int) (e : Fin 12), s.setup.live[i] ≠ v →
     let t := s.applyField i v .knob (some e)
     PanelChange s t i v .knob ∧
     (∀ rest prev tm, s.setup.undo = rest ++ [.field i prev .knob (some e) tm] → s.msNow ≤ tm + 1000 →
       t.setup.undo = rest ++ [.field i prev .knob (some e) s.msNow]) ∧
     ((¬∃ rest prev tm, s.setup.undo = rest ++ [.field i prev .knob (some e) tm] ∧ s.msNow ≤ tm + 1000) →
       t.setup.undo = (if s.setup.undo.length < 16 then s.setup.undo else s.setup.undo.drop 1) ++
         [.field i s.setup.live[i] .knob (some e) s.msNow]))

/-- R50: what the source of each automatic LED shows: 0 dark, 1 lit, 2 amber, 3 green (Table 58).

R51 and R52: SET_LED sets an override or a host LED, or is refused with no LED changed; the reply carries what the LED
shows then. -/
def Obligations.LedsShowTheirSourcesAndOverrides : Prop :=
  (∀ (s : State),
     let lit (i : Fin 12) (b : Prop) : Prop :=
       (b → (s.ledSource i).code = 1) ∧ (¬b → (s.ledSource i).code = 0)
     (s.power.st = .standby → (s.ledSource 0).code = 2) ∧ (s.power.st = .on → (s.ledSource 0).code = 3) ∧
     (s.power.st = .poweringUp ∨ s.power.st = .shuttingDown →
       (s.ledSource 0).code = if s.panel.blinkGreen then 3 else 0) ∧
     lit 1 (s.fld 10 = 1) ∧ lit 2 (s.fld 20 = 1) ∧ lit 3 (s.fld 30 = 1) ∧ lit 4 (s.fld 40 = 1) ∧
     lit 5 (s.acq.st ≠ .stopped) ∧ lit 6 (s.acq.st = .stopped) ∧
     lit 7 (s.acq.mode = .single ∧ s.acq.st ≠ .stopped) ∧ lit 8 (s.acq.st = .armed) ∧
     lit 9 (s.meas.devVerdict = .fail) ∧ lit 10 (s.fld 54 = 1) ∧ lit 11 (s.fld 65 = 0) ∧
     (s.power.st = .standby → ∀ i : Fin 12, i ≠ 0 → s.ledAuto i = .dark)) ∧
  (∀ (tag : Byte) (p : List Byte) (s : State), p.length = 2 → s.takes 0x15 tag p = true → s.power.st ≠ .standby →
     let n := argU p 0 1
     let v := argU p 1 1
     ((23 < n ∨ (n < 12 ∧ 2 < v) ∨ (12 ≤ n ∧ 1 < v)) →
       exec (.setLed tag p) s = .next (s.replied 0x15 tag .badValue [])) ∧
     (∀ (i : Fin 12) (o : LedOverride), i.val = n → o.code = v →
       exec (.setLed tag p) s =
         .next { s.replied 0x15 tag .ok [byte n, byte (match o with
             | .auto => (s.ledSource i).code
             | .forceOn => if i = 0 then 3 else 1
             | .forceOff => 0)] with
           panel := { s.panel with overrides := s.panel.overrides.set i o } }) ∧
     (∀ i : Fin 12, i.val + 12 = n → v ≤ 1 →
       exec (.setLed tag p) s =
         .next { s.replied 0x15 tag .ok [byte n, byte v] with
           panel := { s.panel with hostLeds := s.panel.hostLeds.set i (decide (v = 1)) } }))

/-- R54 and R55: BEEP clamps its arguments and is put to the arbiter: it starts over nothing or a tone of lower rank, and
is turned away by an equal or higher one.

R50 and R54: the end of a blink phase of LED 0 begins the other phase, 250 ms long; the end of a tone leaves the
beeper IDLE. That the clock then stands at the event's due time is the model's choice (log entry 6). -/
def Obligations.TonesAndBlinkRunAndEnd : Prop :=
  (∀ (tag : Byte) (p : List Byte) (s : State), p.length = 4 → s.takes 0x17 tag p = true →
     let f := argU p 0 2
     let d := argU p 2 2
     let f' := max 100 (min f 8000)
     let d' := max 1 (min d 2000)
     ((∃ x, s.panel.tone = some x ∧ 2 ≤ x.rank) → exec (.beep tag p) s = .next (s.replied 0x17 tag .busy [])) ∧
     ((∀ x, s.panel.tone = some x → x.rank < 2) →
       exec (.beep tag p) s =
         .next { s.replied 0x17 tag (if f = f' ∧ d = d' then .ok else .clamped) (leBytes 2 f' ++ leBytes 2 d') with
           panel := { s.panel with tone := some ⟨2, f', s.clock.now + d' * 1000000⟩ } })) ∧
  (∀ (s : State),
     (∀ e, s.panel.blinkEnd = some e →
       exec .ledBlinkToggle s = .next { s with
         clock := { s.clock with now := max s.clock.now e }
         panel := { s.panel with blinkGreen := !s.panel.blinkGreen, blinkEnd := some (e + 250000000) } }) ∧
     (∀ x, s.panel.tone = some x →
       exec .toneEnd s = .next { s with
         clock := { s.clock with now := max s.clock.now x.endAt }, panel := { s.panel with tone := none } }))

/-! ### The front end -/

/-- R58 and Table 21: the front-end word of a channel, and the words that the live setup requires.

R63: when the front end is READY, and that each change of the readiness hands one announcement to the engine. -/
def Obligations.ReadinessFollowsTheWords : Prop :=
  (∀ (s : State) (c : Fin 4),
     let w := s.requiredWords[c]
     (w.div100 = true ↔ 7 ≤ s.fld (idVdiv c)) ∧ w.gain = s.fld (idVdiv c) ∧ w.coupling = s.fld (idCoupling c) ∧
       (w.bwl = true ↔ s.fld (idBwl c) = 1) ∧
       (w.power = true ↔ s.fld (idChOn c) = 1 ∨ s.fld idTsrc = (c.val : Int))) ∧
  (∀ (s : State),
     (s.feReadyNow = true ↔ s.fe.cond = .up ∧ s.fe.port = none ∧ s.fe.settleEnd = none ∧
       ∀ c : Fin 4, s.fe.latched[c] = s.requiredWords[c]) ∧
     (s.feReadyNow = s.fe.readyShown → s.showReadiness = s) ∧
     (s.fe.readyShown = true → s.feReadyNow = false →
       s.showReadiness = { s with
         fe := { s.fe with readyShown := false }, boxes := { s.boxes with settle := s.boxes.settle ++ [true] } }) ∧
     (s.fe.readyShown = false → s.feReadyNow = true →
       s.showReadiness = { s with
         fe := { s.fe with readyShown := true }, boxes := { s.boxes with settle := s.boxes.settle ++ [false] } }))

/-- R60 and R67: the Front-End Controller takes the oldest announcement. In the condition UP with the port IDLE it starts
a transfer of 4 µs when a word differs or the announcement informs every block; with the port SHIFTING only the latter
is remembered; in any other condition nothing is transferred. That announcements wait in order until they are taken is
log entry 8.

R60 to R62: at the latch of a transfer in the condition UP the shifted words become the latched words, the settle time
of Table 22 is applied to the settle timer, and a further shift starts at once when a word differs again or a full
reprogram is owed. At the latch of the final transfer of standby entry the condition becomes OFF (R67). That the clock
then stands at the event's due time is the model's choice (log entry 6). -/
def Obligations.FrontEndTransfersAndLatches : Prop :=
  (∀ (s : State) (a : SetupAnn) (rest : List SetupAnn), s.boxes.fe = a :: rest →
     let s1 : State := { s with boxes := { s.boxes with fe := rest } }
     let transfer : State := { s1 with
       fe := { s.fe with port := some ⟨s.requiredWords, a.whole, false, s.clock.now + 4000⟩, fullOwed := false } }
     (s.fe.cond ≠ .up → exec .feSetupAnnouncement s = .next s1) ∧
     (s.fe.cond = .up → s.fe.port = none → s.fe.latched = s.requiredWords → a.whole = false →
       exec .feSetupAnnouncement s = .next s1) ∧
     (s.fe.cond = .up → s.fe.port = none → (s.fe.latched ≠ s.requiredWords ∨ a.whole = true) →
       exec .feSetupAnnouncement s = .next transfer.showReadiness) ∧
     (s.fe.cond = .up → s.fe.port ≠ none → a.whole = false → exec .feSetupAnnouncement s = .next s1) ∧
     (s.fe.cond = .up → s.fe.port ≠ none → a.whole = true →
       exec .feSetupAnnouncement s = .next { s1 with fe := { s.fe with fullOwed := true } })) ∧
  (∀ (s : State) (x : Transfer), s.fe.port = some x →
     let now := max s.clock.now x.endAt
     let relay := ∃ c : Fin 4, x.words[c].div100 ≠ s.fe.latched[c].div100 ∨ x.words[c].coupling ≠ s.fe.latched[c].coupling
     let st : Nat := if x.full = true ∨ relay then 6000000 else if x.words ≠ s.fe.latched then 200000 else 0
     let settle := if st = 0 then s.fe.settleEnd else some (max (s.fe.settleEnd.getD 0) (now + st))
     let s1 : State := { s with clock := { s.clock with now := now } }
     (x.final = true →
         exec .feLatch s = .next (State.showReadiness { s1 with
           fe := { s.fe with latched := x.words, port := none, fullOwed := false, cond := .off } })) ∧
     (x.final = false → s.fe.cond = .up → s.fe.fullOwed = false → x.words = s.requiredWords →
         exec .feLatch s = .next (State.showReadiness { s1 with
           fe := { s.fe with latched := x.words, port := none, settleEnd := settle } })) ∧
     (x.final = false → s.fe.cond = .up → (s.fe.fullOwed = true ∨ x.words ≠ s.requiredWords) →
         exec .feLatch s = .next (State.showReadiness { s1 with
           fe := { s.fe with
             latched := x.words, settleEnd := settle, fullOwed := false
             port := some ⟨s.requiredWords, s.fe.fullOwed, false, now + 4000⟩ } })))

/-- R62, R64: the end of the settle timer, and the expiry of the ready wait, at which the front end enters FE_FAULT, the
engine is told, and a Power Controller that waits for the front end goes on to the store load. That the clock then
stands at the event's due time is the model's choice (log entry 6).

Table 23, R65 and R66: what a change of FE_READY does in each condition. A rise in WAIT_READY or FE_FAULT enters UP
with a full reprogram; a fall in UP enters FE_FAULT, abandons a transfer, stops the settle timer and tells the engine, but
for a fall while the final transfer of a standby entry is shifting, which does nothing (R67). -/
def Obligations.FrontEndTimersAndFeReadyAct : Prop :=
  (∀ (s : State),
     (∀ e, s.fe.settleEnd = some e →
       exec .settleTimerEnd s = .next (State.showReadiness { s with
         clock := { s.clock with now := max s.clock.now e }, fe := { s.fe with settleEnd := none } })) ∧
     (∀ e, s.fe.waitEnd = some e →
       let s1 : State := { s with
         clock := { s.clock with now := max s.clock.now e }
         fe := { s.fe with cond := .fault, waitEnd := none }
         boxes := { s.boxes with fault := s.boxes.fault ++ [true] } }
       (s.power.st = .poweringUp → s.power.upStep = .feWait → s.store.st = .idle →
         exec .readyWaitExpiry s = .next { s1 with
           power := { s.power with upStep := .load }
           store := { s.store with st := .loading, loadPending := false, loadHanded := false } }) ∧
       (¬(s.power.st = .poweringUp ∧ s.power.upStep = .feWait) → exec .readyWaitExpiry s = .next s1))) ∧
  (∀ (s : State),
     let high : State := { s with pins := { s.pins with feReady := true } }
     let low : State := { s with pins := { s.pins with feReady := false } }
     let up : State := { high with
       fe := { s.fe with
         cond := .up, waitEnd := none, fullOwed := false
         port := some ⟨s.requiredWords, true, false, s.clock.now + 4000⟩ } }
     (s.pins.feReady = false →
       (s.fe.cond = .off ∨ s.fe.cond = .up → exec .feReadyRise s = .next high) ∧
       (s.fe.cond = .fault → s.fe.port = none → s.fe.readyShown = false →
         exec .feReadyRise s = .next { up with boxes := { s.boxes with fault := s.boxes.fault ++ [false] } }) ∧
       (s.fe.cond = .waitReady → s.fe.port = none → s.fe.readyShown = false → s.power.st = .poweringUp →
         s.power.upStep = .feWait → s.store.st = .idle →
         exec .feReadyRise s = .next { up with
           power := { s.power with upStep := .load }
           store := { s.store with st := .loading, loadPending := false, loadHanded := false } })) ∧
     (s.pins.feReady = true →
       (s.fe.cond ≠ .up → exec .feReadyFall s = .next low) ∧
       (∀ x, s.fe.cond = .up → s.fe.port = some x → x.final = true → exec .feReadyFall s = .next low) ∧
       (s.fe.cond = .up → (∀ x, s.fe.port = some x → x.final = false) →
         exec .feReadyFall s = .next { low with
           fe := { s.fe with
             cond := .fault, port := none, fullOwed := false, settleEnd := none, readyShown := false }
           boxes := { s.boxes with
             settle := if s.fe.readyShown then s.boxes.settle ++ [true] else s.boxes.settle
             fault := s.boxes.fault ++ [true] } })))

/-- R71 and R72: the calibrated code of a raw code, and when it is CLIPPED.

R83: the two hysteresis primings of an EDGE comparator: a rising crossing needs a code at least the hysteresis below
the level before one at or above it, a falling one the mirror image. -/
def Obligations.CodesAreCalibratedAndCompared : Prop :=
  (∀ (e : CalEntry) (r : Int),
     let q := roundDiv ((r - e.o) * e.g) 16384
     (2 * ((r - e.o) * e.g - 16384 * q) ≤ 16384 ∧ -16384 ≤ 2 * ((r - e.o) * e.g - 16384 * q)) ∧
     (2 * ((r - e.o) * e.g - 16384 * q) = 16384 → q < 0) ∧ (2 * ((r - e.o) * e.g - 16384 * q) = -16384 → 0 < q) ∧
     (calibrate e r).1 = max (-512) (min q 511) ∧
     ((calibrate e r).2 = true ↔ r = -512 ∨ r = 511 ∨ q < -512 ∨ 511 < q)) ∧
  (∀ (k : Comparator) (c : Int),
     let h : Int := if k.loaded.noise = 1 then 12 else 3
     let r := k.atCode c
     (true ∈ r.2 ↔ k.risePrimed = true ∧ k.loaded.level ≤ c) ∧ (false ∈ r.2 ↔ k.fallPrimed = true ∧ c ≤ k.loaded.level) ∧
     (c ≤ k.loaded.level - h → r.1.risePrimed = true) ∧
     (k.loaded.level - h < c → c < k.loaded.level → r.1.risePrimed = k.risePrimed) ∧
     (k.loaded.level ≤ c → r.1.risePrimed = false) ∧
     (k.loaded.level + h ≤ c → r.1.fallPrimed = true) ∧
     (k.loaded.level < c → c < k.loaded.level + h → r.1.fallPrimed = k.fallPrimed) ∧
     (c ≤ k.loaded.level → r.1.fallPrimed = false) ∧
     r.1.loaded = k.loaded ∧ r.1.running = k.running ∧ r.1.last = k.last)

/-! ### Acquisition -/

/-- R92: RUN and SINGLE are refused outside ON and while the fault flag is set; a running acquisition takes the run mode
alone; a stopped one starts a capture, as a running engine starts one, with a segmented start's discards before it (R94, R120),
and offers ACQ_STATE with the state reached.

R93: STOP in STOPPED changes nothing; in a running state it discards the capture in flight, at which a deferred reload is
made (R98), withdraws a claim, which declines an offer still on its way (R109, log entry 40), and offers ACQ_STATE with cause
REQUEST.

R91 and R99: the Measurement Unit's stop, and the front end's fault and its end.

That the ACQ_STATE of a request is offered before its reply is queued is the model's choice (log entry 38); so is the order
of a cancelled pin and the discards of a segmented start (log entry 42). -/
def Obligations.AcquisitionStartsAndStops : Prop :=
  (∀ (tag : Byte) (s : State) (m : RunMode),
     let c : Instr := if m = .run then .run tag [] else .single tag []
     let code : Byte := if m = .run then 0x28 else 0x2A
     s.takes code tag [] = true →
       (s.power.st ≠ .on ∨ s.acq.fault = true → exec c s = .next (s.replied code tag .notNow [])) ∧
       (s.power.st = .on → s.acq.fault = false → s.acq.st ≠ .stopped →
         exec c s = .next { s.replied code tag .ok [] with acq := { s.acq with mode := m } }) ∧
       (s.power.st = .on → s.acq.fault = false → s.acq.st = .stopped →
         ∃ t, exec c s = .next t ∧ t = (s.takeFrame.started m .request).pushReply ⟨tag, code, .ok, []⟩ ∧
           t.acq.mode = m ∧ t.acq.st ≠ .stopped ∧
           (s.feReadyNow = false → t.acq = { s.acq with mode := m, st := .settling }) ∧
           (s.fld idSegmented ≠ 1 → s.feReadyNow = false → t.ring = s.ring) ∧
           (s.fld idSegmented = 1 → ∀ x ∈ t.ring.order, s.ring.lock1 = some x.number ∨ s.ring.lock2 = some x.number) ∧
           t.disp = { s.disp with sel := none, redraw := false } ∧
           t.link = ((s.takeFrame.offer (.acqState t.acq.st m .request)).pushReply ⟨tag, code, .ok, []⟩).link ∧
           Changes [.acq, .ring, .boxes, .meas, .disp, .link] s t)) ∧
  (∀ (tag : Byte) (s : State), s.takes 0x29 tag [] = true →
     (s.acq.st = .stopped → exec (.stop tag []) s = .next (s.replied 0x29 tag .ok [])) ∧
     (s.acq.st ≠ .stopped →
       ∃ t, exec (.stop tag []) s = .next t ∧ AcqEnded s t ∧ t.acq.fault = s.acq.fault ∧
         t.acq.discStop = discarded s.acq.discStop s.acq.cap ∧ t.acq.discSetup = s.acq.discSetup ∧
         t.acq.discFail = s.acq.discFail ∧ t.acq.discFault = s.acq.discFault ∧
         t.link = ((s.takeFrame.offer (.acqState .stopped s.acq.mode .request)).pushReply ⟨tag, 0x29, .ok, []⟩).link)) ∧
  (∀ (s : State),
     (∀ n, s.boxes.failStops = n + 1 →
       (s.acq.st = .stopped → exec .failStop s = .next { s with boxes := { s.boxes with failStops := n } }) ∧
       (s.acq.st ≠ .stopped →
         ∃ t, exec .failStop s = .next t ∧ AcqEnded s t ∧ t.acq.fault = s.acq.fault ∧
           t.acq.discFail = discarded s.acq.discFail s.acq.cap ∧ t.acq.discStop = s.acq.discStop ∧
           t.boxes.failStops = n ∧ t.link = (s.offer (.acqState .stopped s.acq.mode .failStop)).link)) ∧
     (∀ rest, s.boxes.fault = true :: rest →
       (s.acq.st = .stopped →
         exec .faultAnnouncement s =
           .next (({ s with
             boxes := { s.boxes with fault := rest }, acq := { s.acq with fault := true } } : State).offer
               (.acqState .stopped s.acq.mode .feFault))) ∧
       (s.acq.st ≠ .stopped →
         ∃ t, exec .faultAnnouncement s = .next t ∧ AcqEnded s t ∧ t.acq.fault = true ∧
           t.acq.discFault = discarded s.acq.discFault s.acq.cap ∧ t.boxes.fault = rest ∧
           t.link = (s.offer (.acqState .stopped s.acq.mode .feFault)).link)) ∧
     (∀ rest, s.boxes.fault = false :: rest →
       exec .faultCleared s =
         .next { s with boxes := { s.boxes with fault := rest }, acq := { s.acq with fault := false } })) ∧
  (∀ s : State, SegmentsDiscarded s s.segmentedDiscard ∧
     ∀ (m : RunMode) (cause : AcqCause), s.acq.st = .stopped → s.runAs m cause = s.started m cause)

/-- R88: FORCE_TRIGGER in each acquisition state. The time of a FORCED or AUTO trigger stands until the next sample, the
trigger sample, replaces it (log entry 22). At a complete interval its point is stored first, and so at the auto timer's
expiry (log entry 23).

R85 to R87: the expiry of the auto timer in ARMED accepts a trigger with cause AUTO; the expiry of the holdoff timer
in PRE_FILL enters ARMED when the pre-trigger store holds Npre points.

R100: at a gate end the running count becomes the held result and a new gate of 1 s begins. That the clock then stands
at the event's due time is the model's choice (log entry 6). -/
def Obligations.ForceAndTimersTriggerAndArm : Prop :=
  (∀ (tag : Byte) (s : State), s.takes 0x2B tag [] = true →
     (s.acq.st ∈ [AcqSt.stopped, .waitSlot, .pausedGeometry, .postFill, .commitWait] →
       exec (.forceTrigger tag []) s = .next (s.replied 0x2B tag .notNow [])) ∧
     (s.acq.st = .preFill ∨ s.acq.st = .settling →
       exec (.forceTrigger tag []) s =
         .next { s.replied 0x2B tag .ok [] with acq := { s.acq with pendingForce := true } }) ∧
     (∀ c, s.acq.st = .armed → s.acq.cap = some c → c.ivN < 2 ^ c.geom.dExp →
       exec (.forceTrigger tag []) s =
         .next { s.replied 0x2B tag .ok [] with
           acq := { s.acq with
             st := .postFill, pendingForce := false, autoEnd := none
             lastTrig := some ⟨s.timeBase, s.clock.now, .forced⟩
             cap := some { c with gap := c.ivN, ivN := 0, trigTime := s.timeBase, trigCause := .forced, hit := false } } }) ∧
     (∀ u, s.acq.st = .armed → exec .intervalComplete s = .next u →
       exec (.forceTrigger tag []) s = exec (.forceTrigger tag []) u)) ∧
  (∀ (s : State) (c : Capture) (e : Nat), s.acq.cap = some c →
     let s1 : State := { s with clock := { s.clock with now := max s.clock.now e } }
     (s.acq.st = .armed → s.acq.autoEnd = some e → c.ivN < 2 ^ c.geom.dExp →
       exec .autoTimerExpiry s =
         .next { s1 with
           acq := { s.acq with
             st := .postFill, autoEnd := none, lastTrig := some ⟨s1.timeBase, s1.clock.now, .auto⟩
             cap := some { c with
               gap := c.ivN, ivN := 0, trigTime := s1.timeBase, trigCause := .auto, hit := false } } }) ∧
     (∀ u, s.acq.st = .armed → s.acq.autoEnd = some e → exec .intervalComplete s = .next u →
       exec .autoTimerExpiry s = exec .autoTimerExpiry u) ∧
     (s.acq.st = .preFill → s.acq.holdoffEnd = some e →
       (∀ l, s.acq.lastTrig = some l → l.moment + c.trig.holdoff.toNat ≤ s1.clock.now) →
       (c.pre.length < c.geom.npre →
         exec .holdoffExpiry s = .next { s1 with acq := { s.acq with holdoffEnd := none } }) ∧
       (c.geom.npre ≤ c.pre.length → s.acq.pendingForce = false →
         exec .holdoffExpiry s =
           .next { s1 with
             acq := { s.acq with
               st := .armed, holdoffEnd := none
               autoEnd := if c.trig.mode = 0
                 then some (s1.clock.now + min (100000000 + c.geom.leff * 2 ^ c.geom.dExp) 10000000000)
                 else none } }))) ∧
  (∀ (s : State) (e : Nat), s.acq.gateEnd = some e →
     exec .rateGateEnd s =
       .next { s with
         clock := { s.clock with now := max s.clock.now e }
         acq := { s.acq with rateHeld := some s.acq.rateCount, rateCount := 0, gateEnd := some (e + 1000000000) } })

/-- R78: the starting of a capture. NOT_READY leads to SETTLING. With the geometry built and a slot EMPTY, the lowest EMPTY
slot is granted and becomes FILLING; with none EMPTY, the oldest record that no lock and no pin names is discarded and its
slot is granted (R108). A granted slot takes the context of R79, enters PRE_FILL and is tested for ARMED, which a capture
with Npre = 0 enters at once when its holdoff is over (R85). With the geometry not built and a host lock held, or a slot
FILLING, the claim is answered PENDING; with neither, the ring rebuilds at once and the claim is answered from the new slots
(R121, R122). With every record locked or pinned, or with the record numbers exhausted (R107), it is answered NONE.

R79 and R70: the context of a new capture is the live setup as it stands, with the calibration table's entries; that it
holds the entry of every channel, for a TSRC that changes later, is log entry 24.

R78 and R109: a slot on offer is taken in WAIT_SLOT as a granted claim is; in any other state it is declined, becomes EMPTY
again, and the geometry is checked. That an offer which waits on its way, no withdrawal having come before it, reaches the engine
at the next SAMPLE, before its samples, is the model's choice (log entry 40). -/
def Obligations.CaptureStartsByReadinessAndClaim : Prop :=
  (∀ (s : State), s.acq.st ≠ .stopped →
     (s.feReadyNow = false → s.startCapture = { s with acq := { s.acq with st := .settling } }) ∧
     (s.feReadyNow = true →
       ((s.ring.geomPending = true ∨ s.geomBuilt = false) → s.ring.anyLock = true →
         s.startCapture = { s with
           acq := { s.acq with st := .pausedGeometry }
           ring := { s.ring with geomPending := true, waitRebuild := true } }) ∧
       (s.ring.geomPending = false → s.geomBuilt = true → s.ring.counter ≠ 4294967295 →
         let kept (y : Record) : Prop :=
           s.ring.lock1 = some y.number ∨ s.ring.lock2 = some y.number ∨ s.ring.pin = some y.number
         (∀ i : Nat, (∀ j < i, s.ring.slots[j]? ≠ some SlotSt.empty) → s.ring.slots[i]? = some SlotSt.empty →
           s.startCapture = { s with
             acq := s.afterArmTest (s.newCapture i)
             ring := { s.ring with slots := s.ring.slots.set i .filling, waitSlot := false } }) ∧
         (∀ older y newer, (∀ i : Nat, s.ring.slots[i]? ≠ some SlotSt.empty) → s.ring.order = older ++ y :: newer →
           (∀ z ∈ older, kept z) → ¬kept y →
           s.startCapture = { s with
             acq := s.afterArmTest (s.newCapture y.slot)
             ring := { s.ring with
               order := s.ring.order.filter (fun z => z.number != y.number)
               slots := s.ring.slots.set y.slot .filling, waitSlot := false }
             boxes := { s.boxes with
               measRing := s.boxes.measRing ++ [.discard y.number]
               dispRing := s.boxes.dispRing ++ [.discard y.number] } }) ∧
         ((∀ i : Nat, s.ring.slots[i]? ≠ some SlotSt.empty) → (∀ y ∈ s.ring.order, kept y) →
           s.startCapture = { s with
             acq := { s.acq with st := .waitSlot }, ring := { s.ring with waitSlot := true } })) ∧
       ((s.ring.geomPending = true ∨ s.geomBuilt = false) → s.ring.anyLock = false → s.ring.filling = true →
         s.startCapture = { s with
           acq := { s.acq with st := .pausedGeometry }, ring := { s.ring with waitRebuild := true } }) ∧
       ((s.ring.geomPending = true ∨ s.geomBuilt = false) → s.ring.anyLock = false → s.ring.filling = false →
         let c' := min 64 (262144 / (s.liveGeom.leff * s.liveGeom.w))
         let built : Ring := { s.ring with
           order := [], leff := s.liveGeom.leff, w := s.liveGeom.w, cap := c', pin := none, geomPending := false
           waitRebuild := false }
         let told : Boxes := { s.boxes with
           rebuilds := s.boxes.rebuilds + 1, measRing := s.boxes.measRing ++ [.emptied]
           dispRing := s.boxes.dispRing ++ (match s.ring.pin with
             | none => []
             | some n => [.pinCancelled n]) ++ [.emptied] }
         (s.ring.counter ≠ 4294967295 → 0 < c' →
           s.startCapture = { s with
             acq := s.afterArmTest (s.newCapture 0), boxes := told
             ring := { built with slots := (List.replicate c' .empty).set 0 .filling, waitSlot := false } }) ∧
         (s.ring.counter = 4294967295 →
           s.startCapture = { s with
             acq := { s.acq with st := .waitSlot }, boxes := told
             ring := { built with slots := List.replicate c' .empty, waitSlot := true } })) ∧
       (s.ring.geomPending = false → s.geomBuilt = true → s.ring.counter = 4294967295 →
         s.startCapture = { s with
           acq := { s.acq with st := .waitSlot }, ring := { s.ring with waitSlot := true } }))) ∧
  (∀ (s : State) (i : Nat),
     let c := s.newCapture i
     c.slot = i ∧ c.gen = s.setup.gen ∧ c.tdiv = s.fld 50 ∧ c.hpos = s.fld 51 ∧ c.mode = s.fld 53 ∧
       c.geom = geomOf (s.fld 50) (s.fld 52) (s.fld 53) (s.fld 51) ∧ c.trig.src = s.fld 60 ∧ c.trig.type = s.fld 61 ∧
       c.trig.slope = s.fld 62 ∧ c.trig.level = s.fld 63 ∧ c.trig.noise = s.fld 64 ∧ c.trig.mode = s.fld 65 ∧
       c.trig.wcond = s.fld 66 ∧ c.trig.width = s.fld 67 ∧ c.trig.holdoff = s.fld 68 ∧ c.pre = [] ∧ c.post = [] ∧
       c.ivN = 0 ∧
       ∀ n : Fin 4,
         (c.chans[n].on = true ↔ s.fld (10 * (n.val + 1)) = 1) ∧ c.chans[n].vdiv = s.fld (10 * (n.val + 1) + 1) ∧
         c.chans[n].coupling = s.fld (10 * (n.val + 1) + 3) ∧
         ∀ e : Fin 52, e.val = 13 * n.val + (s.fld (10 * (n.val + 1) + 1)).toNat →
           c.chans[n].cal = s.fe.cal[e] ∧
           (s.fld 60 = (n.val : Int) → c.trigCal = s.fe.cal[e])) ∧
  (∀ (r1 r2 r3 r4 : RawCode) (x : Bool) (s : State) (i : Nat), s.boxes.offers = [i] →
     let s1 : State := { s with boxes := { s.boxes with offers := [] } }
     (s.acq.st = .waitSlot →
       exec (.sample r1 r2 r3 r4 x) s = exec (.sample r1 r2 r3 r4 x) { s1 with
         acq := s.afterArmTest (s.newCapture i) }) ∧
     (s.acq.st ≠ .waitSlot →
       exec (.sample r1 r2 r3 r4 x) s = exec (.sample r1 r2 r3 r4 x)
         ({ s1 with ring := { s.ring with slots := s.ring.slots.set i .empty } } : State).geomCheck))

/-- R78 and R95: what "settling began" and "settling ended" do in each acquisition state. A claim that waits is withdrawn; an
offer still on its way is declined by that (R109, log entry 40).

R78, R91 and R122: the gate-opened announcement taken outside COMMIT_WAIT, and the rebuild announcement, which starts
a capture in PAUSED_GEOMETRY alone. That announcements wait in order until they are taken is log entry 8. -/
def Obligations.EngineAnnouncementsAreTaken : Prop :=
  (∀ (s : State) (rest : List Bool),
     let s1 : State := { s with boxes := { s.boxes with settle := rest } }
     (s.boxes.settle = true :: rest →
       (s.acq.st = .stopped ∨ s.acq.st = .settling → exec .settlingBegan s = .next s1) ∧
       (s.acq.st = .waitSlot ∨ s.acq.st = .pausedGeometry → s.acq.cap = none → s.boxes.offers = [] →
         exec .settlingBegan s = .next { s1 with
           acq := { s.acq with st := .settling, holdoffEnd := none, autoEnd := none }
           ring := { s.ring with waitSlot := false, waitRebuild := false } }) ∧
       (∀ i, s.acq.st = .waitSlot ∨ s.acq.st = .pausedGeometry → s.acq.cap = none → s.boxes.offers = [i] →
         ∃ u, OfferDeclined s1 u i ∧ exec .settlingBegan s = .next { u with
           acq := { s.acq with st := .settling, holdoffEnd := none, autoEnd := none } }) ∧
       (∀ c, s.acq.st.inFlight = true → s.acq.cap = some c → s.feReadyNow = false →
         ∃ t, exec .settlingBegan s = .next t ∧ t.acq.st = .settling ∧ t.acq.cap = none ∧ t.acq.mode = s.acq.mode ∧
           t.acq.pendingForce = s.acq.pendingForce ∧ t.acq.discSetup = min 4294967295 (s.acq.discSetup + 1) ∧
           t.ring.slots[c.slot]? ≠ some SlotSt.filling ∧ Changes [.acq, .ring, .boxes] s t)) ∧
     (s.boxes.settle = false :: rest →
       (s.acq.st ≠ .settling → exec .settlingEnded s = .next s1) ∧
       (s.acq.st = .settling → exec .settlingEnded s = .next s1.startCapture))) ∧
  (∀ (s : State) (n : Nat) (m d : Bool),
     (s.boxes.gateOpens = n + 1 → s.acq.st ≠ .commitWait →
       exec (.gateOpened m d) s = .next { s with boxes := { s.boxes with gateOpens := n } }) ∧
     (s.boxes.rebuilds = n + 1 → s.acq.st ≠ .pausedGeometry →
       exec .rebuildAnnouncement s = .next { s with boxes := { s.boxes with rebuilds := n } }) ∧
     (s.boxes.rebuilds = n + 1 → s.acq.st = .pausedGeometry →
       exec .rebuildAnnouncement s =
         .next (({ s with
           boxes := { s.boxes with rebuilds := n }, ring := { s.ring with waitRebuild := false } } : State).startCapture)))

/-- R94 to R97: the FE, ACQ and GEOM class changes, by the acquisition state in which the engine takes the oldest
announcement of the class that waits for it: without effect on a stopped acquisition; the next start reads the new
values in SETTLING, which a GEOM change tests again; a capture in flight is discarded, counted under SETUP (R104), its slot
EMPTY again (R111), the timers stopped, a deferred reload made (R98), the geometry checked (R121), and a capture is started
again; a waiting claim is withdrawn, an offer still on its way declined (R109, log entry 40), and put again for an FE or GEOM
change. SEGMENTED turned on asks for a segmented start. A TRIG part
is taken first (R98). The order of the parts of one announcement is log entry 9; the operands that name the engine or
the ring alone are log entry 37; SEGMENTED turned on where no capture is in flight is log entry 41.

R98: a TRIG-class change by the acquisition state. A reload takes the live trigger fields, clears the comparator's
flags and last crossing, and starts the rate gate afresh (R82, R100). The calibration entry of the source that the context
then names is the one copied at the claim (R70, log entry 24). That a reload with the comparator stopped starts no
gate is log entry 25. -/
def Obligations.SetupChangesActOnTheCapture : Prop :=
  (∀ (s : State) (c : Instr) (p : SetupAnn → Bool) (a : SetupAnn) (order : GeomOrder),
     (c = .feClassChange ∧ p = SetupAnn.isFe ∨ c = .acqClassChange ∧ p = SetupAnn.isAcq ∨
       c = .geomClassChange .engineOnly ∧ p = SetupAnn.isGeom) →
     s.boxes.acq.find? p = some a →
     let s1 : State := { s with boxes := { s.boxes with acq := s.boxes.acq.eraseP p } }
     let s2 := if a.isTrig then s1.trigChange else s1
     let segmented := ∃ ch ∈ a.changes, ch.id = 54 ∧ ch.new = 1
     (s2.acq.st = .stopped → exec c s = .next s2) ∧
     (s2.acq.st = .settling → ¬segmented → a.isGeom = false → exec c s = .next s2) ∧
     (s2.acq.st = .settling → ¬segmented → a.isGeom = true → exec c s = .next s2.startCapture) ∧
     (s2.acq.st = .waitSlot ∨ s2.acq.st = .pausedGeometry → ¬segmented → a.isFe = false → a.isGeom = false →
       exec c s = .next s2) ∧
     (s2.acq.st = .waitSlot ∨ s2.acq.st = .pausedGeometry → ¬segmented → a.isFe = true ∨ a.isGeom = true →
       exec c s = .next (s2.endWork .setup).startCapture) ∧
     (s2.acq.st.inFlight = true → ¬segmented → exec c s = .next (s2.endWork .setup).startCapture) ∧
     (s2.acq.st.inFlight = true → segmented → exec c s = .next ((s2.endWork .setup).segmentedDiscard).startCapture) ∧
     (c = .geomClassChange .engineOnly → s.boxes.ring = [] → exec (.geomClassChange order) s =
       if order = .ringOnly then .next s else exec c s)) ∧
  (∀ (s : State) (a : SetupAnn), s.boxes.acq.find? SetupAnn.isTrig = some a → a.isFe = false → a.isAcq = false →
     a.isGeom = false →
     let s1 : State := { s with boxes := { s.boxes with acq := s.boxes.acq.eraseP SetupAnn.isTrig } }
     let loaded : Acq := { s.acq with
       cmp := ⟨s.acq.cmp.running, trigOf s.setup.live, false, false, none⟩
       deferred := false, rateCount := 0
       gateEnd := if s.acq.cmp.running then some (s.clock.now + 1000000000) else none }
     let adopted (c c' : Capture) : Prop := c' = { c with trig := trigOf s.setup.live, trigCal := c'.trigCal } ∧
       ∀ n : Fin 4, s.fld 60 = (n.val : Int) → c'.trigCal = c.chans[n].cal
     (s.acq.st ∈ [AcqSt.stopped, .settling, .waitSlot, .pausedGeometry, .commitWait] →
       exec .trigClassChange s = .next { s1 with acq := loaded }) ∧
     (s.acq.st = .postFill → exec .trigClassChange s = .next { s1 with acq := { s.acq with deferred := true } }) ∧
     (∀ c, s.acq.st = .armed → s.acq.cap = some c →
       ∃ c' : Capture, adopted c c' ∧
         exec .trigClassChange s = .next { s1 with
           acq := { loaded with
             cap := some c'
             autoEnd := if s.fld 65 = 0
               then some (s.clock.now + min (100000000 + c.geom.leff * 2 ^ c.geom.dExp) 10000000000) else none } }) ∧
     (∀ c, s.acq.st = .preFill → s.acq.cap = some c → c.pre.length < c.geom.npre →
       ∃ (t : State) (c' : Capture), adopted c c' ∧
         exec .trigClassChange s = .next t ∧ t.acq = { loaded with cap := some c', holdoffEnd := t.acq.holdoffEnd } ∧
         (t.acq.holdoffEnd = none ↔ ∀ l, s.acq.lastTrig = some l →
           l.moment + (trigOf s.setup.live).holdoff.toNat ≤ s.clock.now) ∧ Changes [.acq, .boxes] s t)) ∧
  (∀ s : State,
     let t := s.endWork .setup
     let a : Acq := { s.acq with holdoffEnd := none, autoEnd := none }
     (s.acq.cap = none → s.boxes.offers = [] →
       t = { s with acq := a, ring := { s.ring with waitSlot := false, waitRebuild := false } }) ∧
     (∀ i, s.acq.cap = none → s.boxes.offers = [i] → OfferDeclined { s with acq := a } t i) ∧
     (∀ c, s.acq.cap = some c →
       let ended : Acq := { a with cap := none, discSetup := min 4294967295 (s.acq.discSetup + 1) }
       let reloaded : Acq := { ended with
         cmp := ⟨s.acq.cmp.running, trigOf s.setup.live, false, false, none⟩
         deferred := false, rateCount := 0
         gateEnd := if s.acq.cmp.running then some (s.clock.now + 1000000000) else none }
       let freed : State := { s with
         acq := if s.acq.deferred = true then reloaded else ended
         ring := { s.ring with slots := s.ring.slots.set c.slot .empty } }
       GeometryChecked freed t ∧ ∀ q, t.ring.slots[c.slot]? = some q → q = SlotSt.empty))

/-- R121: the Record Ring takes a GEOM announcement: with the built geometry live nothing happens; with a host lock held the
geometry becomes pending; with a slot FILLING the ring waits; otherwise it rebuilds (R122): every record leaves, the memory is
divided anew by the capacity of R105, and three blocks are told. -/
def Obligations.GeometryChangeRebuildsTheRing : Prop :=
  ∀ (s : State) (a : SetupAnn) (rest : List SetupAnn), s.boxes.ring = a :: rest →
    let s1 : State := { s with boxes := { s.boxes with ring := rest } }
    let c : Instr := .geomClassChange .ringOnly
    let c' := min 64 (262144 / (s.liveGeom.leff * s.liveGeom.w))
    (s.geomBuilt = true → s.ring.geomPending = false → exec c s = .next s1) ∧
    ((s.geomBuilt = false ∨ s.ring.geomPending = true) → s.ring.anyLock = true →
      exec c s = .next { s1 with ring := { s.ring with geomPending := true } }) ∧
    ((s.geomBuilt = false ∨ s.ring.geomPending = true) → s.ring.anyLock = false → s.ring.filling = true →
      exec c s = .next s1) ∧
    ((s.geomBuilt = false ∨ s.ring.geomPending = true) → s.ring.anyLock = false → s.ring.filling = false →
      exec c s = .next { s1 with
        ring := { s.ring with
          order := [], slots := List.replicate c' .empty, leff := s.liveGeom.leff, w := s.liveGeom.w, cap := c'
          pin := none, geomPending := false, waitRebuild := false }
        boxes := { s1.boxes with
          rebuilds := s.boxes.rebuilds + 1, measRing := s.boxes.measRing ++ [.emptied]
          dispRing := s.boxes.dispRing ++ (match s.ring.pin with
            | none => []
            | some n => [.pinCancelled n]) ++ [.emptied] } })

/-- R74, R80 to R84, R86 and R100: one nanosecond of samples in each state, with the interval not yet complete. Time goes on
by 1 ns. The running comparator sees the calibrated code of a powered source channel (R71, R82), or a change of EXT. A
crossing qualifies by TSLOPE, for a PULSE by the width since the last crossing (R83, R84); a qualifying event is counted
(R100), and in ARMED it accepts the trigger at this sample. Then the sample enters the interval of each present channel in
PRE_FILL, ARMED and POST_FILL; in POST_FILL none enters once the capture is complete, and the first after an AUTO or FORCED
trigger is the trigger sample, whose time replaces the one recorded (log entry 22). A sample of a complete interval is
taken after its INTERVAL_COMPLETE. That a sample stands for one nanosecond of the clock is log entry 6. The premise on the
two flags of the comparator is kept by every step (`RunInv`); that no slot is on offer is log entry 40. That the
context holds an entry for every loaded source is log entry 24.

R80, R81 and R85: INTERVAL_COMPLETE in each state: the point of a complete interval, by ACQMODE, goes into the pre-trigger
store, which keeps the Npre most recent points, before the trigger, with the test for ARMED in PRE_FILL, and behind the
stored points after it. That a complete interval waits for this command, a SAMPLE or CAPTURE_COMPLETE is log entry 23. -/
def Obligations.SamplesAndIntervalsBuildTheCapture : Prop :=
  (∀ (r1 r2 r3 r4 : RawCode) (x : Bool) (s : State), s.boxes.offers = [] →
     (∀ c, s.acq.cap = some c → c.ivN < 2 ^ c.geom.dExp) →
     s.acq.cmp.risePrimed = false ∨ s.acq.cmp.fallPrimed = false →
     let raw : Vector RawCode 4 := #v[r1, r2, r3, r4]
     let add (c : Capture) : Capture := { c with
       ivN := c.ivN + 1
       iv := Vector.ofFn (fun i : Fin 4 =>
         let v := calibrate c.chans[i].cal raw[i].toInt
         let a := c.iv[i]
         if c.chans[i].on = true ∧ s.fe.latched[i].power = true then
           if c.ivN = 0 then ⟨v.1, v.1, v.1, v.1, v.2⟩
           else ⟨a.first, min a.mn v.1, max a.mx v.1, a.sum + v.1, a.clipped || v.2⟩
         else if c.ivN = 0 then ⟨0, 0, 0, 0, false⟩ else a) }
     let taken (a : Acq) : Acq :=
       match a.st, a.cap with
       | .preFill, some c => { a with cap := some (add c) }
       | .armed, some c => { a with cap := some (add c) }
       | .postFill, some c =>
         let c' := if c.hit = true then c else { c with hit := true, trigTime := s.timeBase }
         { a with
           lastTrig := if c.hit = true then a.lastTrig else some ⟨s.timeBase, s.clock.now, c.trigCause⟩
           cap := some (if c.geom.leff - c.geom.npre ≤ c.post.length then c' else add c') }
       | _, _ => a
     let next (a : Acq) : State := { s with
       clock := { s.clock with now := s.clock.now + 1 }, pins := { s.pins with ext := x }, acq := taken a }
     let cal (i : Fin 4) : CalEntry :=
       match s.acq.cap with
       | some c => c.chans[i].cal
       | none => s.fe.calAt i (s.fld (10 * (i.val + 1) + 1))
     let k := s.acq.cmp
     let sees (k' : Comparator) (l : List Bool) : Prop :=
       (k.running = false ∧ k' = k ∧ l = []) ∨
       (k.running = true ∧ k.loaded.src = 4 ∧ k' = k ∧ l = if s.pins.ext = x then [] else [x]) ∨
       (k.running = true ∧ ∃ i : Fin 4, k.loaded.src = (i.val : Int) ∧
         ((s.fe.latched[i].power = false ∧ k' = k ∧ l = []) ∨
          (s.fe.latched[i].power = true ∧ (k', l) = k.atCode (calibrate (cal i) raw[i].toInt).1)))
     let selects (rising : Bool) : Prop := (rising = true → k.loaded.slope ≠ 1) ∧ (rising = false → k.loaded.slope ≠ 0)
     let qualifies (rising : Bool) : Prop :=
       (k.loaded.type = 0 ∧ selects rising) ∨
       (k.loaded.type ≠ 0 ∧ ∃ z, k.last = some z ∧ z.rising ≠ rising ∧ selects z.rising ∧
         let width : Int := ((s.timeBase + 2 ^ 64 - z.time) % 2 ^ 64 : Nat)
         (k.loaded.wcond = 0 → width < k.loaded.width) ∧ (k.loaded.wcond ≠ 0 → k.loaded.width < width))
     ∀ (k' : Comparator) (l : List Bool), sees k' l →
       let crossed (r : Bool) : Acq := { s.acq with cmp := { k' with last := some ⟨r, s.timeBase⟩ } }
       let count := min 4294967295 (s.acq.rateCount + 1)
       (l = [] → exec (.sample r1 r2 r3 r4 x) s = .next (next { s.acq with cmp := k' })) ∧
       (∀ r, l = [r] → ¬qualifies r → exec (.sample r1 r2 r3 r4 x) s = .next (next (crossed r))) ∧
       (∀ r, l = [r] → qualifies r → s.acq.st ≠ .armed ∨ s.acq.cap = none →
         exec (.sample r1 r2 r3 r4 x) s = .next (next { crossed r with rateCount := count })) ∧
       (∀ r c, l = [r] → qualifies r → s.acq.st = .armed → s.acq.cap = some c →
         exec (.sample r1 r2 r3 r4 x) s = .next (next { crossed r with
           rateCount := count, st := .postFill, autoEnd := none
           lastTrig := some ⟨s.timeBase, s.clock.now, .triggered⟩
           cap := some { c with
             gap := c.ivN, ivN := 0, trigTime := s.timeBase, trigCause := .triggered, hit := true } }))) ∧
  (∀ (r1 r2 r3 r4 : RawCode) (x : Bool) (s u : State), s.boxes.offers = [] → exec .intervalComplete s = .next u →
     exec (.sample r1 r2 r3 r4 x) s = exec (.sample r1 r2 r3 r4 x) u) ∧
  (∀ s : State,
     (s.acq.cap = none ∨ s.acq.st ∉ [AcqSt.preFill, .armed, .postFill] → exec .intervalComplete s = .next s) ∧
     ∀ c : Capture, s.acq.cap = some c →
       let d := 2 ^ c.geom.dExp
       let row : PointRow := Vector.ofFn (fun i : Fin 4 =>
         let a := c.iv[i]
         if c.mode = 1 then ⟨a.mn, a.mx, a.clipped⟩
         else if c.mode = 2 then ⟨roundDiv a.sum d, roundDiv a.sum d, a.clipped⟩
         else ⟨a.first, a.first, a.clipped⟩)
       let pre := (c.pre ++ [row]).drop (c.pre.length + 1 - c.geom.npre)
       (c.ivN < d → exec .intervalComplete s = .next s) ∧
       (d ≤ c.ivN → s.acq.st = .preFill →
         exec .intervalComplete s = .next { s with acq := s.afterArmTest { c with pre := pre, ivN := 0 } }) ∧
       (d ≤ c.ivN → s.acq.st = .armed →
         exec .intervalComplete s = .next { s with acq := { s.acq with cap := some { c with pre := pre, ivN := 0 } } }) ∧
       (d ≤ c.ivN → s.acq.st = .postFill →
         exec .intervalComplete s =
           .next { s with acq := { s.acq with cap := some { c with post := c.post ++ [row], ivN := 0 } } }))

/-- R89 to R91, R98, R102 and R110: a complete capture in POST_FILL, with the gate open, is committed as the newest record
with the next number; with the gate closed it waits in COMMIT_WAIT, from which the gate-opened announcement commits it. In
run mode SINGLE the acquisition then stops with cause SINGLE_DONE, in RUN with SEGMENTED on and every slot held with cause
SEGMENTS_FULL, and in RUN otherwise the next capture starts. A reload that was deferred is made as the capture leaves
POST_FILL, before the commit.

That a commit waits while a change that ends the capture, or the full reprogram of a RESET, is on its way (`waits`) is
read from R96 and R102 (log entry 10). The operands say which of the commit's announcements are taken before the next
capture claims its slot, which the rules leave open (log entry 37). A complete interval enters the
capture first (log entry 23). -/
def Obligations.CompleteCaptureIsCommitted : Prop :=
  ∀ (s : State) (c : Capture) (m d : Bool), s.acq.cap = some c →
    let waits := (∃ a ∈ s.boxes.acq, a.isFe = true ∨ a.isAcq = true) ∨ true ∈ s.boxes.settle ∨
      ∃ a ∈ s.boxes.fe, a.whole = true
    let early : List Instr := (if m then [.measCommitTaken] else []) ++ (if d then [.rasterCommitTaken] else [])
    let complete := s.acq.st = .postFill ∧ c.ivN < 2 ^ c.geom.dExp ∧ c.hit = true ∧
      c.geom.leff - c.geom.npre ≤ c.post.length
    let committed (cmd : Instr) (opens : Nat) : Prop :=
      ∃ u v : State, Changes [.acq, .ring, .meas, .boxes, .link] s u ∧ u.acq = { s.acq with cap := none } ∧
        u.ring = { s.ring with
          slots := s.ring.slots.set c.slot .held, counter := s.ring.counter + 1
          order := s.ring.order ++ [{ c.toRecord with number := s.ring.counter + 1 }] } ∧
        u.link = (s.offer (.recordDone (s.ring.counter + 1) c.trigTime c.trigCause)).link ∧
        u.meas = { s.meas with gateShut := u.gateShutNow } ∧
        u.boxes = { s.boxes with
          gateOpens := opens, measRing := s.boxes.measRing ++ [.commit (s.ring.counter + 1)]
          dispRing := s.boxes.dispRing ++ [.commit (s.ring.counter + 1)] } ∧
        Runs early u v ∧
        let stops (cause : AcqCause) : Prop := ∃ t, exec cmd s = .next t ∧ Changes [.acq, .meas, .boxes, .link] v t ∧
          t.acq = { v.acq with
            st := .stopped, pendingForce := false, holdoffEnd := none, autoEnd := none } ∧
          t.meas = { v.meas with failFlag := false, gateShut := t.meas.gateShut } ∧
          t.link = (v.offer (.acqState .stopped s.acq.mode cause)).link
        (s.acq.mode = .single → stops .singleDone) ∧
        (s.acq.mode = .run → s.fld 54 = 1 → s.ring.order.length + 1 = s.ring.cap → stops .segmentsFull) ∧
        (s.acq.mode = .run → s.fld 54 ≠ 1 ∨ s.ring.order.length + 1 ≠ s.ring.cap →
          exec cmd s = .next v.startCapture)
    (complete → s.acq.deferred = false → s.gateShutNow = true →
      exec (.captureComplete m d) s = .next { s with acq := { s.acq with st := .commitWait } }) ∧
    (complete → s.gateShutNow = false → waits → exec (.captureComplete m d) s = .next s) ∧
    (complete → s.acq.deferred = false → s.gateShutNow = false → ¬waits → s.ring.geomPending = false →
      s.geomBuilt = true → s.meas.gateShut = false →
      committed (.captureComplete m d) s.boxes.gateOpens) ∧
    (complete → s.acq.deferred = true → s.gateShutNow = true ∨ ¬waits →
      exec (.captureComplete m d) s = exec (.captureComplete m d) { s with
        acq := { s.acq with
          cmp := ⟨s.acq.cmp.running, trigOf s.setup.live, false, false, none⟩
          deferred := false, rateCount := 0
          gateEnd := if s.acq.cmp.running then some (s.clock.now + 1000000000) else none } }) ∧
    (∀ u, exec .intervalComplete s = .next u →
      exec (.captureComplete m d) s = exec (.captureComplete m d) u) ∧
    (s.acq.st = .commitWait → ∀ n, s.boxes.gateOpens = n + 1 →
      (s.gateShutNow = true →
        exec (.gateOpened m d) s = .next { s with boxes := { s.boxes with gateOpens := n } }) ∧
      (s.gateShutNow = false → waits → exec (.gateOpened m d) s = .next s) ∧
      (s.gateShutNow = false → ¬waits → s.ring.geomPending = false → s.geomBuilt = true → s.meas.gateShut = false →
        committed (.gateOpened m d) n))

/-! ### The record ring -/

/-- R115: HOLD_RECORD with its table of cases: both entries taken, no such record, and otherwise the lowest-numbered FREE
entry names the record, 0 meaning the newest. R117: RELEASE_RECORD frees an entry. With the geometry-pending flag clear,
a record that becomes discardable serves a claim that waits for a slot: the oldest discardable record is discarded, its
slot becomes FILLING and is offered to the engine, which takes it in WAIT_SLOT as a claim that is granted (R78, R109). The operand
says whether the engine takes it in this step or it is still on its way, as where the release falls together with a withdrawal
(log entry 40). With the other entry FREE and a rebuild pending the ring rebuilds.

R116 and R223: READ_POINTS with its checks in their order, and the points that it serves. -/
def Obligations.HostLocksHoldServeAndRelease : Prop :=
  (∀ (w : Bool) (tag : Byte) (p : List Byte) (s : State),
     (p.length = 4 → s.takes 0x30 tag p = true →
       let n := argU p 0 4
       let named : Option Record :=
         if n = 0 then s.ring.order.getLast? else s.ring.order.find? (fun x => x.number == n)
       ((∃ a b, s.ring.lock1 = some a ∧ s.ring.lock2 = some b) →
         exec (.holdRecord tag p) s = .next (s.replied 0x30 tag .noSlot [])) ∧
       ((s.ring.lock1 = none ∨ s.ring.lock2 = none) → named = none →
         exec (.holdRecord tag p) s = .next (s.replied 0x30 tag .empty [])) ∧
       (∀ x, s.ring.lock1 = none → named = some x →
         exec (.holdRecord tag p) s =
           .next { s.replied 0x30 tag .ok (1 :: headerBytes x) with ring := { s.ring with lock1 := some x.number } }) ∧
       (∀ x a, s.ring.lock1 = some a → s.ring.lock2 = none → named = some x →
         exec (.holdRecord tag p) s =
           .next { s.replied 0x30 tag .ok (2 :: headerBytes x) with ring := { s.ring with lock2 := some x.number } })) ∧
     (p.length = 1 → s.takes 0x32 tag p = true →
       let k := argU p 0 1
       let entry := if k = 1 then s.ring.lock1 else s.ring.lock2
       let other := if k = 1 then s.ring.lock2 else s.ring.lock1
       let freed : Ring := if k = 1 then { s.ring with lock1 := none } else { s.ring with lock2 := none }
       (k ≠ 1 → k ≠ 2 → exec (.releaseRecord tag ⟨p, w⟩) s = .next (s.replied 0x32 tag .badValue [])) ∧
       (k = 1 ∨ k = 2 → entry = none → exec (.releaseRecord tag ⟨p, w⟩) s = .next (s.replied 0x32 tag .empty [])) ∧
       (k = 1 ∨ k = 2 → entry ≠ none →
         ∃ t, exec (.releaseRecord tag ⟨p, w⟩) s = .next t ∧ t.link = (s.replied 0x32 tag .ok []).link ∧
           t.ring.lock1 = freed.lock1 ∧ t.ring.lock2 = freed.lock2 ∧ t.ring.counter = s.ring.counter ∧
           Changes [.acq, .ring, .boxes, .link] s t ∧ (s.acq.st ≠ .waitSlot → t.acq = s.acq) ∧
           (s.ring.waitSlot = false → (other ≠ none ∨ (s.geomBuilt = true ∧ s.ring.geomPending = false)) →
             t.ring = freed ∧ Changes [.ring, .link] s t) ∧
           (∀ older x newer,
             let kept (y : Record) : Prop :=
               freed.lock1 = some y.number ∨ freed.lock2 = some y.number ∨ freed.pin = some y.number
             s.ring.waitSlot = true → s.acq.st = .waitSlot → s.ring.geomPending = false → s.ring.counter ≠ 4294967295 →
             (∀ n, entry = some n → other ≠ some n ∧ s.ring.pin ≠ some n) →
             (∀ i : Nat, s.ring.slots[i]? ≠ some SlotSt.empty) → s.ring.order = older ++ x :: newer →
             (∀ y ∈ older, kept y) → ¬kept x → s.ring.slots[x.slot]? = some .held →
             t.ring = { freed with
               order := s.ring.order.filter (fun y => y.number != x.number)
               slots := s.ring.slots.set x.slot .filling, waitSlot := false } ∧
             t.boxes = { s.boxes with
               offers := s.boxes.offers ++ (if w then [x.slot] else [])
               measRing := s.boxes.measRing ++ [.discard x.number]
               dispRing := s.boxes.dispRing ++ [.discard x.number] } ∧
             t.acq = if w then s.acq else s.afterArmTest (s.newCapture x.slot)) ∧
           (s.ring.geomPending = true → other = none → s.ring.filling = false →
             t.ring.order = [] ∧ t.ring.geomPending = false ∧ t.ring.leff = s.liveGeom.leff ∧ t.ring.w = s.liveGeom.w ∧
               t.ring.pin = none ∧ t.boxes.rebuilds = s.boxes.rebuilds + 1 ∧ Changes [.ring, .boxes, .link] s t)))) ∧
  (∀ (tag : Byte) (p : List Byte) (s : State), p.length = 8 → s.takes 0x31 tag p = true →
     let k := argU p 0 1
     let ch := argU p 1 1
     let start := argU p 2 4
     let entry := if k = 1 then s.ring.lock1 else s.ring.lock2
     (k ≠ 1 → k ≠ 2 → exec (.readPoints tag p) s = .next (s.replied 0x31 tag .badValue [])) ∧
     (k = 1 ∨ k = 2 → entry = none → exec (.readPoints tag p) s = .next (s.replied 0x31 tag .empty [])) ∧
     (k = 1 ∨ k = 2 → entry ≠ none → ¬(1 ≤ ch ∧ ch ≤ 4) →
       exec (.readPoints tag p) s = .next (s.replied 0x31 tag .badValue [])) ∧
     ∀ (m : Nat) (x : Record) (c : Fin 4), k = 1 ∨ k = 2 → entry = some m →
       s.ring.order.find? (fun y => y.number == m) = some x → c.val + 1 = ch →
       (x.chans[c].on = false → exec (.readPoints tag p) s = .next (s.replied 0x31 tag .empty [])) ∧
       (x.chans[c].on = true → x.geom.leff ≤ start →
         exec (.readPoints tag p) s = .next (s.replied 0x31 tag .badValue [])) ∧
       (x.chans[c].on = true → start < x.geom.leff →
         let n := min (argU p 6 2) (min (if x.mode = 1 then 120 else 240) (x.geom.leff - start))
         let word (v : Int) (clipped : Bool) : List Byte :=
           leBytes 2 ((v % 1024).toNat + if clipped then 32768 else 0)
         let point (q : Point) : List Byte :=
           if x.geom.w = 2 then word q.lo q.clipped ++ word q.hi q.clipped else word q.lo q.clipped
         exec (.readPoints tag p) s = .next (s.replied 0x31 tag .ok
           ([byte ch] ++ leBytes 4 start ++ leBytes 2 n ++
             ((x.points.drop start).take n).flatMap (fun row => point row[c])))))

/-- R119: CLEAR discards the records that no lock and no pin names, oldest first, tells the two readers of each and of the
clear, and keeps the counter; at exhaustion a CLEAR that leaves no record returns the counter to 0 (R107) and serves a claim
that waits for a slot: the lowest EMPTY slot becomes FILLING and is offered to the engine, which takes it in the same step (R78,
R109, log entry 40). The premise, that the claim which waits is that of an engine in WAIT_SLOT, is kept by every step
(`RingInv`). That the clear announcement carries the counter and a mark of that return is the model's choice (log entry 44). -/
def Obligations.ClearDiscardsTheUnprotectedRecords : Prop :=
  ∀ (tag : Byte) (s : State), s.takes 0x34 tag [] = true → (s.ring.waitSlot = true → s.acq.st = .waitSlot) →
    let kept (x : Record) : Bool :=
      s.ring.lock1 == some x.number || s.ring.lock2 == some x.number || s.ring.pin == some x.number
    let gone := s.ring.order.filter (fun x => !kept x)
    let ends := s.ring.counter = 4294967295 ∧ s.ring.order.filter kept = []
    let anns := gone.map (fun x => RingAnn.discard x.number) ++ [.clear (if ends then 0 else s.ring.counter) (decide ends)]
    ∃ t, exec (.clear tag []) s = .next t ∧ t.link = (s.replied 0x34 tag .ok []).link ∧
      t.boxes.measRing = s.boxes.measRing ++ anns ∧ t.boxes.dispRing = s.boxes.dispRing ++ anns ∧
      t.ring.lock1 = s.ring.lock1 ∧ t.ring.lock2 = s.ring.lock2 ∧ t.ring.pin = s.ring.pin ∧
      t.ring.order = s.ring.order.filter kept ∧ t.ring.counter = (if ends then 0 else s.ring.counter) ∧
      (¬ends ∨ s.ring.waitSlot = false →
        t.ring = { s.ring with
          order := t.ring.order, counter := t.ring.counter, slots := t.ring.slots } ∧
        t.ring.slots.length = s.ring.slots.length ∧
        (∀ i : Nat, t.ring.slots[i]? =
          if ∃ x ∈ gone, x.slot = i then s.ring.slots[i]?.map (fun _ => SlotSt.empty) else s.ring.slots[i]?) ∧
        t.meas = { s.meas with gateShut := t.meas.gateShut } ∧ Changes [.ring, .boxes, .meas, .link] s t) ∧
      (ends → s.ring.waitSlot = true → ∀ l : List SlotSt,
        (∀ i : Nat, l[i]? =
          if ∃ x ∈ gone, x.slot = i then s.ring.slots[i]?.map (fun _ => SlotSt.empty) else s.ring.slots[i]?) →
        (∀ i : Nat, (∀ j < i, l[j]? ≠ some SlotSt.empty) → l[i]? = some SlotSt.empty →
          t.ring = { s.ring with order := [], counter := 0, slots := l.set i .filling, waitSlot := false } ∧
          t.acq = s.afterArmTest (s.newCapture i)) ∧
        ((∀ i : Nat, l[i]? ≠ some SlotSt.empty) →
          t.ring = { s.ring with order := [], counter := 0, slots := l } ∧ t.acq = s.acq) ∧
        t.boxes.offers = s.boxes.offers ∧
        t.meas = { s.meas with gateShut := t.meas.gateShut } ∧ Changes [.acq, .ring, .boxes, .meas, .link] s t)

/-! ### Measurement and limit testing -/

/-- R125, R126 and R128: a commit, discard or emptied announcement is taken; with the evaluator BUSY nothing else happens;
IDLE, it looks for work: the newest record above the settled number, then the numbers that have left the ring, then a
pending re-evaluation while STOPPED, which sets every result to NO_RECORD when the record is not there. That such a result's
origin is FIRST is the model's choice (log entry 17). -/
def Obligations.EvaluationsAreScheduled : Prop :=
  ∀ (c : Instr) (a : RingAnn) (rest : List RingAnn) (s : State), s.boxes.measRing = a :: rest →
    ((∃ n, a = .commit n) ∧ c = .measCommitTaken ∨
      ((∃ n, a = .discard n) ∨ a = .emptied) ∧ c = .measRingAnnouncement) →
    let s1 : State := { s with boxes := { s.boxes with measRing := rest } }
    let m := s.meas
    let starts (t : State) (x : Record) (k : EvalKind) : Prop := ∃ e, t.meas.eval = some e ∧ e.record = x.number ∧
      e.kind = k ∧ e.window = (x.points.drop x.geom.start).take x.geom.p ∧ e.chans = x.chans ∧ e.mode = x.mode ∧
      e.geom = x.geom ∧ e.zeroband = s.fld 160 ∧ e.rate = s.acq.rateHeld ∧ e.cleared = false ∧
      ∀ j : Fin 6, e.dirty[j] = false ∧ e.cfg[j] = ⟨s.fld (100 + 10 * j.val), s.fld (101 + 10 * j.val),
        decide (s.fld (102 + 10 * j.val) = 1), s.fld (103 + 10 * j.val), decide (s.fld (104 + 10 * j.val) = 1),
        s.fld (105 + 10 * j.val)⟩
    let above := ∃ x, s.ring.order.getLast? = some x ∧ m.ns < x.number
    (m.eval.isSome = true → exec c s = .next s1) ∧
    (∀ x, m.eval = none → s.ring.order.getLast? = some x → m.ns < x.number →
      ∃ t, exec c s = .next t ∧ starts t x .first ∧ Changes [.boxes, .meas] s t ∧ t.boxes = s1.boxes ∧
        t.meas = { m with
          eval := t.meas.eval, ns := x.number - 1, skipped := min 4294967295 (m.skipped + (x.number - 1 - m.ns)) }) ∧
    (m.eval = none → ¬above → m.ns < s.ring.counter →
      ∃ t, exec c s = .next t ∧ Changes [.boxes, .meas] s t ∧ t.boxes.measRing = rest ∧
        t.meas = { m with
          ns := s.ring.counter, skipped := min 4294967295 (m.skipped + (s.ring.counter - m.ns))
          gateShut := t.meas.gateShut }) ∧
    (m.eval = none → ¬above → s.ring.counter ≤ m.ns →
      (m.reReq = false → exec c s = .next s1) ∧
      (m.reReq = true → s.acq.st ≠ .stopped → exec c s = .next { s1 with meas := { m with reReq := false } }) ∧
      (∀ x, m.reReq = true → s.acq.st = .stopped →
        (match s.disp.sel with
          | none => s.ring.order.getLast?
          | some n => s.ring.order.find? (fun y => y.number == n)) = some x →
        ∃ t, exec c s = .next t ∧ starts t x .re ∧ Changes [.boxes, .meas] s t ∧ t.boxes = s1.boxes ∧
          t.meas = { m with eval := t.meas.eval, reReq := false }) ∧
      (m.reReq = true → s.acq.st = .stopped →
        (match s.disp.sel with
          | none => s.ring.order.getLast?
          | some n => s.ring.order.find? (fun y => y.number == n)) = none →
        exec c s = .next { s1 with
          meas := { m with reReq := false, results := Vector.replicate 6 ⟨0, .noRecord, false, none, .first⟩ } }))

/-- R145: at the clear announcement of a CLEAR every slot result becomes NO_RECORD, an evaluation in flight notes it
(R127), and the settled number follows a counter that the CLEAR has returned to 0 and no other; statistics, counts,
holds, verdicts and the limit line stay. That an evaluation notes the clear when the unit takes its announcement is log
entry 27; that the announcement carries the counter and a mark of its return is log entry 44; that the origin of a result
made NO_RECORD is FIRST is the model's choice (log entry 17).

R137 and R128: a MEAS-class announcement clears the statistics, the fail count and the fail hold of each slot with a
changed field and of no other; while STOPPED a re-evaluation is requested, and with the evaluator BUSY it waits.

R140: a change of FAILSTOP from on to off clears the fail-stop flag and opens the gate at once, and hands the gate-opened
announcement when the gate was CLOSED; a change from off to on closes the gate at once when the counter exceeds Ns.

R127: a change of a field of slot j during an evaluation takes the slot out of it, and a change of any other field takes
out none. -/
def Obligations.ClearsAndMeasChangesActOnTheResults : Prop :=
  (∀ (s : State) (counter : Nat) (ended : Bool) (rest : List RingAnn),
     s.boxes.measRing = .clear counter ended :: rest →
     ∃ t, exec .measRingAnnouncement s = .next t ∧ Changes [.boxes, .meas] s t ∧ t.boxes.measRing = rest ∧
       (∀ j : Fin 6, t.meas.results[j] = ⟨0, .noRecord, false, none, .first⟩) ∧
       (∀ e, s.meas.eval = some e →
         t.meas = { s.meas with
           results := t.meas.results, ns := if ended = true then min s.meas.ns counter else s.meas.ns
           eval := some { e with cleared := true }, gateShut := t.meas.gateShut }) ∧
       t.meas.stats = s.meas.stats ∧ t.meas.failCount = s.meas.failCount ∧ t.meas.hold = s.meas.hold ∧
       t.meas.devVerdict = s.meas.devVerdict ∧ t.meas.recVerdict = s.meas.recVerdict ∧ t.meas.line = s.meas.line ∧
       t.meas.lineEnd = s.meas.lineEnd ∧ t.meas.override = s.meas.override) ∧
  (∀ (s : State) (a : SetupAnn) (rest : List SetupAnn), s.boxes.meas = a :: rest →
     let hit (j : Fin 6) : Prop := ∃ ch ∈ a.changes, 100 + 10 * j.val ≤ ch.id ∧ ch.id ≤ 105 + 10 * j.val
     ∃ t, exec .measClassChange s = .next t ∧ t.boxes.meas = rest ∧ Changes [.boxes, .meas] s t ∧
       (∀ j : Fin 6,
         (hit j → t.meas.stats[j] = ⟨0, none⟩ ∧ t.meas.failCount[j] = 0 ∧ t.meas.hold[j] = none) ∧
         (¬hit j → t.meas.stats[j] = s.meas.stats[j] ∧ t.meas.failCount[j] = s.meas.failCount[j] ∧
           t.meas.hold[j] = s.meas.hold[j])) ∧
       t.meas.devVerdict = s.meas.devVerdict ∧ t.meas.recVerdict = s.meas.recVerdict ∧ t.meas.line = s.meas.line ∧
       t.meas.lineEnd = s.meas.lineEnd ∧ t.meas.override = s.meas.override ∧ t.meas.failFlag = s.meas.failFlag ∧
       (s.acq.st ≠ .stopped → t.meas.results = s.meas.results ∧ t.meas.eval = s.meas.eval ∧
         t.meas.reReq = s.meas.reReq ∧ t.meas.ns = s.meas.ns ∧ t.meas.skipped = s.meas.skipped) ∧
       (s.acq.st = .stopped → s.meas.eval.isSome = true → t.meas.eval = s.meas.eval ∧
         t.meas.results = s.meas.results ∧
         ((∃ ch ∈ a.changes, ∃ i, fieldIx ch.id = some i ∧ (fieldInfo i).cls = .meas) → t.meas.reReq = true))) ∧
  (∀ (s : State) (i : Fin 87) (src : Source) (enc : Option (Fin 12)), fieldIx 161 = some i →
     (s.setup.live[i] ≠ 0 →
       let t := s.applyField i 0 src enc
       t.meas.failFlag = false ∧ t.meas.gateShut = false ∧
         t.boxes.gateOpens = s.boxes.gateOpens + (if s.meas.gateShut = true then 1 else 0)) ∧
     (s.setup.live[i] = 0 → s.meas.failFlag = false →
       let t := s.applyField i 1 src enc
       t.meas.failFlag = false ∧ (t.meas.gateShut = true ↔ s.meas.ns < s.ring.counter))) ∧
  (∀ (s : State) (i : Fin 87) (v : Int) (src : Source) (enc : Option (Fin 12)) (e : Eval), s.meas.eval = some e →
     s.setup.live[i] ≠ v →
     ∃ e' : Eval, (s.applyField i v src enc).meas.eval = some e' ∧ e' = { e with dirty := e'.dirty } ∧
       ∀ j : Fin 6, e'.dirty[j] = true ↔
         e.dirty[j] = true ∨ (100 + 10 * j.val ≤ (fieldInfo i).id ∧ (fieldInfo i).id ≤ 105 + 10 * j.val))

/-- R127 and R134 to R141: the completion of an evaluation, of whatever record, and the scheduling point that follows, which
takes up the work that waits (R125; an origin FIRST that it sets is log entry 17) and without any changes nothing. A re-evaluation writes results alone. A first evaluation
also counts the results of the slots that take part, tests them against the limits copied at its start, forms the verdicts,
moves the limit line, with FAILSTOP on hands the stop for a FAIL record, and can open the gate (R138). For a result outside
both limits by the same excess the side of the fail hold is free (log entry 7), and the statement says that it is one of the
two.

R136: a change of the device verdict offers a LIMIT notice with the slots that failed, and a FAIL record with FAILBEEP on
asks for the FAIL tone, which a FAIL tone that plays turns away (R54). R144: a MEAS_RESULT follows, unless less than 250 ms
have passed since the last one offered. -/
def Obligations.EvaluationCompletes : Prop :=
  ∀ (s : State) (e : Eval), s.meas.eval = some e →
    let m := s.meas
    let r (j : Fin 6) : SlotResult := e.form (if e.kind = .first then s.acq.rateHeld else e.rate) j
    let counts (j : Fin 6) : Prop := e.dirty[j] = false ∧ ((r j).status = .valid ∨ (r j).status = .zeroed)
    let tested (j : Fin 6) : Prop := counts j ∧ (e.cfg[j].loOn = true ∨ e.cfg[j].hiOn = true)
    let low (j : Fin 6) : Prop := counts j ∧ e.cfg[j].loOn = true ∧ (r j).value < e.cfg[j].lo
    let high (j : Fin 6) : Prop := counts j ∧ e.cfg[j].hiOn = true ∧ e.cfg[j].hi < (r j).value
    let fails (j : Fin 6) : Prop := low j ∨ high j
    let due := ∀ z, m.lastOffer = some z → z + 250000000 ≤ s.clock.now
    let sounds := e.kind = .first ∧ (∃ j, fails j) ∧ s.fld 162 = 1 ∧ ∀ x, s.panel.tone = some x → x.rank < 3
    ∃ t v, exec .evaluationComplete s = .next v ∧ MeasScheduled t v ∧
      (s.meas.reReq = false → s.ring.counter ≤ t.meas.ns → (∀ x, s.ring.order.getLast? = some x → x.number ≤ t.meas.ns) →
        v = t) ∧
      Changes [.meas, .boxes, .panel, .link] s t ∧ t.meas.eval = none ∧ t.meas.reReq = m.reReq ∧
      t.boxes = { s.boxes with failStops := t.boxes.failStops, gateOpens := t.boxes.gateOpens } ∧
      (sounds → t.panel = { s.panel with tone := some ⟨3, 2000, s.clock.now + 150000000⟩ }) ∧
      (¬sounds → t.panel = s.panel) ∧
      (∃ l : List (Fin 6), l.Pairwise (· < ·) ∧ (∀ j, j ∈ l ↔ fails j) ∧
        let u := if e.kind = .first ∧ t.meas.devVerdict ≠ m.devVerdict
          then s.offer (.limit t.meas.devVerdict e.record l t.meas.line) else s
        (due → t.meas.lastOffer = some s.clock.now ∧
          t.link = (u.offer (.measResult e.record e.kind t.meas.results)).link) ∧
        (¬due → t.meas.lastOffer = m.lastOffer ∧ t.link = u.link)) ∧
      (∀ j : Fin 6,
        ((e.dirty[j] = true ∨ e.cleared = true) → t.meas.results[j] = m.results[j]) ∧
        (e.dirty[j] = false → e.cleared = false → t.meas.results[j] = r j)) ∧
      (e.kind = .re → t.boxes = s.boxes ∧ t.panel = s.panel ∧
        t.meas = { m with results := t.meas.results, eval := none, lastOffer := t.meas.lastOffer }) ∧
      (e.kind = .first → t.meas.ns = e.record ∧ t.meas.skipped = m.skipped ∧ t.meas.recVerdictOf = e.record ∧
        (t.meas.gateShut = true ↔ s.fld 161 = 1 ∧ (e.record < s.ring.counter ∨ t.meas.failFlag = true)) ∧
        t.boxes.gateOpens = s.boxes.gateOpens + bit (m.gateShut && !t.meas.gateShut) ∧
        (∀ j : Fin 6,
          (¬counts j → t.meas.stats[j] = m.stats[j]) ∧
          (counts j → t.meas.stats[j].count = min 4294967295 (m.stats[j].count + 1)) ∧
          (counts j → m.stats[j].range = none → t.meas.stats[j].range = some ((r j).value, (r j).value)) ∧
          (∀ a b, counts j → m.stats[j].range = some (a, b) →
            t.meas.stats[j].range = some (min a (r j).value, max b (r j).value)) ∧
          (fails j → t.meas.failCount[j] = min 65535 (m.failCount[j] + 1)) ∧
          (¬fails j → t.meas.failCount[j] = m.failCount[j] ∧ t.meas.hold[j] = m.hold[j]) ∧
          (low j → ¬high j → m.hold[j] = none →
            t.meas.hold[j] = some ⟨(r j).value, false, e.cfg[j].lo - (r j).value, e.record⟩) ∧
          (high j → ¬low j → m.hold[j] = none →
            t.meas.hold[j] = some ⟨(r j).value, true, (r j).value - e.cfg[j].hi, e.record⟩) ∧
          (low j → high j →
            (∀ h, m.hold[j] = some h → h.excess < max (e.cfg[j].lo - (r j).value) ((r j).value - e.cfg[j].hi)) →
            ((r j).value - e.cfg[j].hi < e.cfg[j].lo - (r j).value →
              t.meas.hold[j] = some ⟨(r j).value, false, e.cfg[j].lo - (r j).value, e.record⟩) ∧
            (e.cfg[j].lo - (r j).value < (r j).value - e.cfg[j].hi →
              t.meas.hold[j] = some ⟨(r j).value, true, (r j).value - e.cfg[j].hi, e.record⟩) ∧
            (e.cfg[j].lo - (r j).value = (r j).value - e.cfg[j].hi →
              ∃ side, t.meas.hold[j] = some ⟨(r j).value, side, (r j).value - e.cfg[j].hi, e.record⟩)) ∧
          (∀ h, m.hold[j] = some h → low j → ¬high j → h.excess < e.cfg[j].lo - (r j).value →
            t.meas.hold[j] = some ⟨(r j).value, false, e.cfg[j].lo - (r j).value, e.record⟩) ∧
          (∀ h, m.hold[j] = some h → high j → ¬low j → h.excess < (r j).value - e.cfg[j].hi →
            t.meas.hold[j] = some ⟨(r j).value, true, (r j).value - e.cfg[j].hi, e.record⟩) ∧
          (∀ h, m.hold[j] = some h → (low j → e.cfg[j].lo - (r j).value ≤ h.excess) →
            (high j → (r j).value - e.cfg[j].hi ≤ h.excess) → t.meas.hold[j] = some h)) ∧
        ((∃ j, fails j) → t.meas.recVerdict = .fail ∧ t.meas.devVerdict = .fail) ∧
        ((∃ j, tested j) → (∀ j, ¬fails j) → t.meas.recVerdict = .pass ∧ t.meas.devVerdict = .pass) ∧
        ((∀ j, ¬tested j) → t.meas.recVerdict = .none ∧ t.meas.devVerdict = m.devVerdict ∧ t.meas.line = m.line ∧
          t.meas.lineEnd = m.lineEnd) ∧
        ((∃ j, fails j) →
          (m.line = .deasserted → s.fld 163 = 0 → t.meas.line = .asserted ∧ t.meas.lineEnd = none) ∧
          (m.line = .deasserted → s.fld 163 ≠ 0 → t.meas.line = .assertPending ∧
            t.meas.lineEnd = some (s.clock.now + (s.fld 163).toNat * 1000000)) ∧
          (m.line = .assertPending ∨ m.line = .asserted → t.meas.line = m.line ∧ t.meas.lineEnd = m.lineEnd) ∧
          (m.line = .releasePending → t.meas.line = .asserted ∧ t.meas.lineEnd = none)) ∧
        ((∃ j, tested j) → (∀ j, ¬fails j) →
          (m.line = .deasserted ∨ m.line = .releasePending → t.meas.line = m.line ∧ t.meas.lineEnd = m.lineEnd) ∧
          (m.line = .assertPending → t.meas.line = .deasserted ∧ t.meas.lineEnd = none) ∧
          (m.line = .asserted → s.fld 164 = 0 → t.meas.line = .deasserted ∧ t.meas.lineEnd = none) ∧
          (m.line = .asserted → s.fld 164 ≠ 0 → t.meas.line = .releasePending ∧
            t.meas.lineEnd = some (s.clock.now + (s.fld 164).toNat * 1000000))) ∧
        ((∃ j, fails j) → s.fld 161 = 1 → t.boxes.failStops = s.boxes.failStops + 1 ∧
          t.meas.failFlag = decide (s.acq.st ≠ .stopped)) ∧
        ((∀ j, ¬fails j) ∨ s.fld 161 ≠ 1 → t.boxes.failStops = s.boxes.failStops ∧ t.meas.failFlag = m.failFlag) ∧
        t.meas.override = m.override)

/-- R131: PK_PK, MAX and MIN are exact and VALID; for a PEAK record the extremes are those of the pairs; no PK_PK exceeds
102,300,000 µV.

R129 and R130: MEAN, RMS_DC and RMS_AC from the N values of the window, each point of a PEAK record giving its minimum and
then its maximum: ZEROED inside the zero band, tested in codes, otherwise VALID with the rounded quotient or the integer
nearest the exact root, halves upward. The bounds on the codes and on the number of points hold of every record.

R132: PERIOD and FREQ from the rising crossings of the values in their order; a crossing is a value at or above mid + hy
with a value at or below mid − hy before it and none at or above mid + hy between the two. R133: TRIG_RATE is the held count.
R129: MKIND NONE and a channel that the record does not hold give NO_RESULT, and CLIPPED is that of the window's points. -/
def Obligations.ExtremesAreExact : Prop :=
  (∀ (e : Eval) (rate : Option Nat) (j : Fin 6),
     let f := e.form rate j
     (e.cfg[j].kind = 9 → f.clipped = false ∧ (∀ n, rate = some n → f.status = .valid ∧ f.value = n) ∧
       (rate = none → f.status = .noResult)) ∧
     (∀ c : Fin 4, e.cfg[j].kind ≠ 9 → e.cfg[j].src = (c.val : Int) →
       (e.cfg[j].kind = 0 ∨ e.chans[c].on = false → f.status = .noResult ∧ f.value = 0 ∧ f.clipped = false) ∧
       (e.cfg[j].kind ≠ 0 → e.chans[c].on = true →
         (f.clipped = true ↔ ∃ row ∈ e.window, row[c].clipped = true)))) ∧
  ∀ (e : Eval) (rate : Option Nat) (j : Fin 6) (c : Fin 4) (mx mn : Int), e.cfg[j].src = (c.val : Int) →
    e.chans[c].on = true → 0 ≤ e.chans[c].vdiv → e.chans[c].vdiv ≤ 12 →
    let v := vdivOf e.chans[c].vdiv
    let value (x : Int) : Prop := ∃ row ∈ e.window, x = row[c].lo ∨ (e.mode = 1 ∧ x = row[c].hi)
    value mx → value mn → (∀ x, value x → mn ≤ x ∧ x ≤ mx) → (e.mode = 1 → ∀ row ∈ e.window, row[c].lo ≤ row[c].hi) →
    let f := e.form rate j
    (e.cfg[j].kind = 4 → f.status = .valid ∧ f.value * 100 = (mx - mn) * v) ∧
    (e.cfg[j].kind = 5 → f.status = .valid ∧ f.value * 100 = mx * v) ∧
    (e.cfg[j].kind = 6 → f.status = .valid ∧ f.value * 100 = mn * v) ∧
    (e.mode = 1 → (∃ row ∈ e.window, mx = row[c].hi) ∧ (∃ row ∈ e.window, mn = row[c].lo)) ∧
    (e.cfg[j].kind = 4 → -512 ≤ mn → mx ≤ 511 → f.value ≤ 102300000) ∧
    (e.cfg[j].kind = 4 → e.chans[c].vdiv = 12 → mn = -512 → mx = 511 → v = 10000000 ∧ f.value = 102300000) ∧
    (-512 ≤ mn → mx ≤ 511 → e.window.length ≤ 262144 →
      let vals : List Int := e.window.flatMap (fun row => if e.mode = 1 then [row[c].lo, row[c].hi] else [row[c].lo])
      let n : Int := vals.length
      let sum : Int := vals.sum
      let q2 : Int := (vals.map (fun x => x * x)).sum
      let zb := e.zeroband
      let zeroed := f.status = .zeroed ∧ f.value = 0
      let rootOf (p q : Int) : Prop := f.status = .valid ∧ 0 ≤ f.value ∧ 4 * p < (2 * f.value + 1) ^ 2 * q ∧
        (f.value ≠ 0 → (2 * f.value - 1) ^ 2 * q ≤ 4 * p)
      (e.cfg[j].kind = 1 →
        (|sum| < zb * n → zeroed) ∧
        (zb * n ≤ |sum| → f.status = .valid ∧ f.value = roundDiv (sum * v) (100 * n))) ∧
      (e.cfg[j].kind = 2 →
        (q2 < zb ^ 2 * n → zeroed) ∧ (zb ^ 2 * n ≤ q2 → rootOf (q2 * v ^ 2) (n * 10000))) ∧
      (e.cfg[j].kind = 3 →
        (n * q2 - sum ^ 2 < zb ^ 2 * n ^ 2 → zeroed) ∧
        (zb ^ 2 * n ^ 2 ≤ n * q2 - sum ^ 2 → rootOf ((n * q2 - sum ^ 2) * v ^ 2) (n ^ 2 * 10000)))) ∧
    (e.cfg[j].kind = 7 ∨ e.cfg[j].kind = 8 →
      let vals : List (Int × Nat) := (List.range e.window.length).flatMap (fun i => match e.window[i]? with
        | none => []
        | some row => if e.mode = 1 then [(row[c].lo, e.geom.start + i), (row[c].hi, e.geom.start + i)]
          else [(row[c].lo, e.geom.start + i)])
      let mid := (mx + mn) / 2
      let hy := max 1 ((mx - mn) / 20)
      let crosses (k : Nat) : Prop := ∃ x, vals[k]? = some x ∧ mid + hy ≤ x.1 ∧
        ∃ b < k, ∃ y, vals[b]? = some y ∧ y.1 ≤ mid - hy ∧
          ∀ m, b < m → m < k → ∀ z, vals[m]? = some z → z.1 < mid + hy
      (mx - mn < 4 → f.status = .noResult) ∧
      (4 ≤ mx - mn → ∀ ks : List Nat, ks.Pairwise (· < ·) → (∀ k, k ∈ ks ↔ crosses k) →
        (ks.length < 2 → f.status = .noResult) ∧
        (∀ a ms b x y, ks = a :: ms ++ [b] → vals[a]? = some x → vals[b]? = some y →
          let period := roundDiv (((y.2 - x.2) * 2 ^ e.geom.dExp * 1000 : Nat) : Int) ((ks.length - 1 : Nat) : Int)
          f.status = .valid ∧
            f.value = if e.cfg[j].kind = 7 then period else roundDiv 1000000000000000 period)))

/-- R141 to R143: the limit line at its timer's expiry, LIMIT_OUT, CLEAR_STATS and CLEAR_FAIL. That the clock then stands
at the event's due time is the model's choice (log entry 6). CLEAR_FAIL keeps the record number of the last verdict
(log entry 26). That CLEAR_FAIL's LIMIT is offered before its reply is queued is log entry 38. -/
def Obligations.LimitLineAndClearsAct : Prop :=
  ∀ (tag : Byte) (p : List Byte) (s : State),
    (∀ x, s.meas.lineEnd = some x →
      let at' (l : LineSt) : State := { s with
        clock := { s.clock with now := max s.clock.now x }, meas := { s.meas with line := l, lineEnd := none } }
      (s.meas.line = .assertPending → exec .limitTimerExpiry s = .next (at' .asserted)) ∧
      (s.meas.line = .releasePending → exec .limitTimerExpiry s = .next (at' .deasserted))) ∧
    (p.length = 1 → s.takes 0x3B tag p = true →
      (2 < argU p 0 1 → exec (.limitOut tag p) s = .next (s.replied 0x3B tag .badValue [])) ∧
      (∀ o : LineOverride, o.code = argU p 0 1 →
        let level : Bool := match o with
          | .auto => decide (s.meas.line = .asserted ∨ s.meas.line = .releasePending)
          | .forceTrue => true
          | .forceFalse => false
        exec (.limitOut tag p) s =
          .next { s.replied 0x3B tag .ok [if level then 1 else 0] with meas := { s.meas with override := o } })) ∧
    (s.takes 0x39 tag [] = true →
      exec (.clearStats tag []) s =
        .next { s.replied 0x39 tag .ok [] with
          meas := { s.meas with stats := Vector.replicate 6 ⟨0, none⟩ } }) ∧
    (s.takes 0x3A tag [] = true →
      exec (.clearFail tag []) s = .next { s with
        meas := { s.meas with
          failCount := Vector.replicate 6 0, hold := Vector.replicate 6 none, devVerdict := .none, recVerdict := .none
          line := .deasserted, lineEnd := none }
        link := ((if s.meas.devVerdict = .none then s.takeFrame
          else s.takeFrame.offer (.limit .none 0 [] .deasserted)).pushReply ⟨tag, 0x3A, .ok, []⟩).link })

/-! ### The waveform display -/

/-- R146, R157, R168, R178 and R179: a frame start while scan-out runs. While acquisition runs under PERSIST SHORT or LONG
a decay step is made at once by an IDLE rasteriser and becomes pending under a BUSY one. A drawer in WAIT_FRAME swaps
its buffers. The frame is sent from the front buffer of that moment. That the clock then stands at the event's due
time is the model's choice (log entry 6). The moment of frame start k is log entry 30. -/
def Obligations.FrameStartDecaysAndSwaps : Prop :=
  ∀ s : State,
    (s.disp.scanning = false → exec .frameStart s = .next s) ∧
    (s.disp.scanning = true → (∀ c : Fin 4, s.disp.planes[c].wf = true) →
      let p := s.fld idPersist
      let decayed (v : Nat) : Nat := if v = 0 then 0 else if p = 1 then v - max 1 (v / 4) else v - max 1 (v / 32)
      let decays := s.acq.st ≠ .stopped ∧ (p = 1 ∨ p = 2)
      ∃ t, exec .frameStart s = .next t ∧ Changes [.clock, .disp, .ov] s t ∧
        t.clock = { s.clock with now := max s.clock.now (s.disp.frameBase + s.disp.frameIx * 1000000000 / 60) } ∧
        t.disp = { s.disp with
          planes := t.disp.planes, decays := t.disp.decays, frameIx := s.disp.frameIx + 1 } ∧
        (decays → s.disp.raster = none → t.disp.decays = s.disp.decays ∧ ∀ (c : Fin 4) (a : Nat),
          (t.disp.planes[c].read a).toNat = decayed (s.disp.planes[c].read a).toNat) ∧
        (decays → s.disp.raster ≠ none → t.disp.planes = s.disp.planes ∧
          t.disp.decays = min 255 (s.disp.decays + 1)) ∧
        (¬decays → t.disp.planes = s.disp.planes ∧ t.disp.decays = s.disp.decays) ∧
        (s.ov.st = .waitFrame →
          t.ov = { s.ov with frontB := !s.ov.frontB, scanB := !s.ov.frontB, st := .copying }) ∧
        (s.ov.st ≠ .waitFrame → t.ov = { s.ov with scanB := s.ov.frontB }))

/-- R149 and R150: the display takes a commit announcement. With the rasteriser BUSY nothing else happens; IDLE, the newest
record above the drawn number is pinned and drawn LIVE under a copy of the live setup, with the planes cleared under PERSIST
OFF alone; numbers that have left the ring are passed over; a pending redraw starts in STOPPED alone. -/
def Obligations.RasterisationsAreScheduled : Prop :=
  ∀ (s : State) (n : Nat) (rest : List RingAnn), s.boxes.dispRing = .commit n :: rest →
    let s1 : State := { s with boxes := { s.boxes with dispRing := rest } }
    let d := s.disp
    let above := ∃ x, s.ring.order.getLast? = some x ∧ d.nd < x.number
    let drawn (r : Raster) (x : Record) (k : RasterKind) : Prop :=
      r.record = x.number ∧ r.kind = k ∧ r.chans = x.chans ∧ r.mode = x.mode ∧ r.geom = x.geom ∧ r.points = x.points ∧
        r.tdiv = s.fld idTdiv ∧ r.hpos = s.fld idHpos ∧ r.persist = s.fld idPersist ∧
        ∀ c : Fin 4, r.on[c] = decide (s.fld (idChOn c) = 1) ∧ r.vdiv[c] = s.fld (idVdiv c) ∧ r.pos[c] = s.fld (idPos c)
    let cleared : Vector Memory 4 := Vector.replicate 4 []
    (d.raster.isSome = true → exec .rasterCommitTaken s = .next s1) ∧
    (∀ x, d.raster = none → s.ring.order.getLast? = some x → d.nd < x.number → s.ring.pin = none →
      s.ring.order.find? (fun y => y.number == x.number) = some x →
      ∃ r, drawn r x .live ∧ exec .rasterCommitTaken s = .next { s1 with
        ring := { s.ring with pin := some x.number }
        disp := { d with
          raster := some r, nd := x.number, passed := min 4294967295 (d.passed + (x.number - 1 - d.nd))
          planes := if s.fld idPersist = 0 then cleared else d.planes } }) ∧
    (d.raster = none → ¬above → d.redraw = false →
      exec .rasterCommitTaken s = .next { s1 with
        disp := { d with
          nd := max d.nd s.ring.counter, passed := if s.ring.counter ≤ d.nd then d.passed
            else min 4294967295 (d.passed + (s.ring.counter - d.nd)) } }) ∧
    (d.raster = none → ¬above → s.ring.counter ≤ d.nd → d.redraw = true →
      (s.acq.st ≠ .stopped → exec .rasterCommitTaken s = .next { s1 with disp := { d with redraw := false } }) ∧
      (∀ x, s.acq.st = .stopped → s.ring.pin = none → s.ring.order.find? (fun y => y.number == x.number) = some x →
        (d.sel = some x.number ∨ (d.sel = none ∧ s.ring.order.getLast? = some x)) →
        ∃ r, drawn r x .redraw ∧ exec .rasterCommitTaken s = .next { s1 with
          ring := { s.ring with pin := some x.number }
          disp := { d with raster := some r, redraw := false, planes := cleared } }) ∧
      (s.acq.st = .stopped → s.ring.order = [] →
        exec .rasterCommitTaken s =
          .next { s1 with disp := { d with redraw := false, sel := none, planes := cleared } }))

/-- R151, R156 and R157: the completion of a rasterisation with no work behind it: each pixel of the hits takes the hit's
value, the pending decays follow, every other pixel only decays, and the pin ends. That a scheduling point follows and finds
nothing is part of the premises. R113: the end of the pin serves a claim that waits for a slot, the geometry-pending flag set
or clear (log entry 11): the oldest record that no lock names is discarded and its slot offered to the engine, which takes it in
the same step (R78, R109, log entry 40).

R153 to R155: the hits of a rasterisation. The values of a drawn channel, in the order of their points, are mapped to
columns and rows; those beyond the sides are omitted. A pixel is hit when its column receives a value and its row lies
between two rows out of those of the column's own values and the last value of the drawn column before. No pixel is hit
twice. A channel that the record does not hold, or whose CH_ON was off, has no hits. -/
def Obligations.RasterisationCompletes : Prop :=
  (∀ (s : State) (r : Raster), s.disp.raster = some r → s.ring.pin = some r.record → s.ring.waitSlot = false →
    s.ring.counter ≤ s.disp.nd → (∀ x, s.ring.order.getLast? = some x → x.number ≤ s.disp.nd) →
    s.disp.redraw = false → (∀ c : Fin 4, s.disp.planes[c].wf = true) →
    let p := s.fld idPersist
    let decayed (v : Nat) : Nat := if v = 0 then 0
      else if p = 1 then v - max 1 (v / 4) else if p = 2 then v - max 1 (v / 32) else v
    let after (v : Nat) : Nat := decayed^[s.disp.decays] v
    ∃ t, exec .rasterComplete s = .next t ∧
      t = { s with
        ring := { s.ring with pin := none }
        disp := { s.disp with raster := none, decays := 0, planes := t.disp.planes } } ∧
      ∀ (c : Fin 4) (a : Nat),
        let v := (s.disp.planes[c].read a).toNat
        let v' := (t.disp.planes[c].read a).toNat
        ((c, a) ∉ r.hits → v' = after v) ∧
        ((c, a) ∈ r.hits → r.kind = .redraw ∨ r.persist = 0 → v' = after 255) ∧
        (r.hits.count (c, a) = 1 → r.kind = .live → r.persist ≠ 0 → v' = after (min 255 (v + 64)))) ∧
  (∀ (s : State) (r : Raster) (older newer : List Record) (x : Record), s.disp.raster = some r →
    s.ring.pin = some r.record → s.ring.waitSlot = true → s.acq.st = .waitSlot → s.ring.counter ≠ 4294967295 →
    (∀ i : Nat, s.ring.slots[i]? ≠ some SlotSt.empty) → s.ring.order = older ++ x :: newer →
    let kept (y : Record) : Prop := s.ring.lock1 = some y.number ∨ s.ring.lock2 = some y.number
    (∀ y ∈ older, kept y) → ¬kept x → s.disp.redraw = false → s.ring.counter ≤ s.disp.nd →
    (∀ y ∈ s.ring.order, y.number ≤ s.disp.nd) →
    ∃ t, exec .rasterComplete s = .next t ∧
      t.ring = { s.ring with
        pin := none, order := s.ring.order.filter (fun y => y.number != x.number)
        slots := s.ring.slots.set x.slot .filling, waitSlot := false } ∧
      t.acq = s.afterArmTest (s.newCapture x.slot) ∧
      t.boxes = { s.boxes with
        measRing := s.boxes.measRing ++ [.discard x.number]
        dispRing := s.boxes.dispRing ++ [.discard x.number] } ∧ Changes [.acq, .ring, .boxes, .disp] s t) ∧
  (∀ (r : Raster), 0 < tdivOf r.tdiv →
    r.hits.Nodup ∧
    ∀ c : Fin 4,
      let column (i : Nat) : Int :=
        r.hpos / 2 + (((i : Int) - r.geom.npre) * 2 ^ r.geom.dExp * 50) / (tdivOf r.tdiv : Int)
      let row (v : Int) : Int :=
        max 0 (min (200 - (roundDiv (v * vdivOf r.chans[c].vdiv) (2 * vdivOf r.vdiv[c]) + r.pos[c])) 399)
      let vals : List (Int × Int) := (List.range r.points.length).flatMap (fun i => match r.points[i]? with
        | none => []
        | some q =>
          if 0 ≤ column i ∧ column i < 500 then
            if r.mode = 1 then [(column i, row q[c].lo), (column i, row q[c].hi)] else [(column i, row q[c].lo)]
          else [])
      (r.chans[c].on = false ∨ r.on[c] = false → ∀ a, (c, a) ∉ r.hits) ∧
      (r.chans[c].on = true → r.on[c] = true → ∀ a, (c, a) ∈ r.hits ↔
        ∃ (x y : Nat) (w : Int) (before rest : List (Int × Int)), a = 500 * y + x ∧ vals = before ++ (↑x, w) :: rest ∧
          (∀ q ∈ before, q.1 ≠ x) ∧
          let joined (k : Int) : Prop := (↑x, k) ∈ vals ∨ ∃ q, before.getLast? = some q ∧ q.2 = k
          ∃ lo hi : Int, joined lo ∧ joined hi ∧ lo ≤ y ∧ (y : Int) ≤ hi))

/-- R159, R160 and R152: what the display does with an announcement of the Setup Controller and of the Record Ring. A
rasterisation in flight is abandoned by a clearing change, a clear, an emptied ring and a cancelled pin: the rasteriser is
IDLE, the pin ends (R113), which can serve a claim that waits, no decay is pending, the announcement is gone, and what the
event clears is clear; for a cancelled pin a free number of hits has landed (log entry 4). A scheduling point follows an
abandonment (R149, R152), also that of a clear (log entry 43); a slot offered is taken in the same step (log entry 40); with no
claim and no work waiting nothing else changes. That a cancelled pin taken late, with the rasterisation of another record in
flight, abandons nothing is the model's choice (log entry 48). That a clearing change taken while acquisition runs abandons a REDRAW too, which can be in flight
there since it was started while STOPPED, is log entry 47. A clear
lowers the drawn number to the counter it carries (log entry 44). A change taken while STOPPED asks for a REDRAW, which with
the rasteriser IDLE is scheduled at once. -/
def Obligations.DisplayFollowsAnnouncements : Prop :=
  ∀ s : State,
    let d := s.disp
    let cleared : Vector Memory 4 := Vector.replicate 4 []
    let quiet := s.ring.counter ≤ d.nd ∧ ∀ x, s.ring.order.getLast? = some x → x.number ≤ d.nd
    let abandons (c : Instr) (s1 : State) (r : Raster) (d' : Display) : Prop :=
      ∃ t, exec c s = .next t ∧ Abandoned s1 r d' t
    (∀ a rest, s.boxes.disp = a :: rest →
      let s1 : State := { s with boxes := { s.boxes with disp := rest } }
      let clears := a.whole = true ∨ ∃ ch ∈ a.changes, ch.id ∈ [11, 12, 21, 22, 31, 32, 41, 42, 50, 51]
      (s.acq.st ≠ .stopped → ¬clears → exec .displaySetupAnnouncement s = .next s1) ∧
      (s.acq.st ≠ .stopped → clears → d.raster = none →
        exec .displaySetupAnnouncement s = .next { s1 with disp := { d with planes := cleared } }) ∧
      (s.acq.st ≠ .stopped → clears → d.raster.isSome = true →
        ∃ t, exec .displaySetupAnnouncement s = .next t ∧ t.disp.planes = cleared ∧ t.disp.decays = 0 ∧
          t.freeCtr = s.freeCtr + 1 ∧ Changes [.acq, .boxes, .disp, .ring, .freeCtr] s t) ∧
      (∀ r, s.acq.st ≠ .stopped → clears → d.raster = some r →
        abandons .displaySetupAnnouncement s1 r { d with raster := none, planes := cleared, decays := 0 }) ∧
      (s.acq.st = .stopped → d.raster.isSome = true →
        exec .displaySetupAnnouncement s = .next { s1 with disp := { d with redraw := true } }) ∧
      (s.acq.st = .stopped → d.raster = none → s.ring.pin = none →
        ∃ t, exec .displaySetupAnnouncement s = .next t ∧
          DisplayScheduled { s1 with disp := { d with redraw := true } } t) ∧
      (∀ x, s.acq.st = .stopped → d.raster = none → quiet → s.ring.pin = none →
        s.ring.order.find? (fun y => y.number == x.number) = some x →
        (d.sel = some x.number ∨ (d.sel = none ∧ s.ring.order.getLast? = some x)) →
        ∃ r, Drawn s r x .redraw ∧
          exec .displaySetupAnnouncement s = .next { s1 with
            ring := { s.ring with pin := some x.number }
            disp := { d with raster := some r, redraw := false, planes := cleared } })) ∧
    (∀ a rest, s.boxes.dispRing = a :: rest →
      let s1 : State := { s with boxes := { s.boxes with dispRing := rest } }
      (∀ n, a = .discard n → exec .displayRingAnnouncement s =
        .next { s1 with disp := { d with sel := if d.sel = some n then none else d.sel } }) ∧
      (∀ n, a = .pinCancelled n → (∀ r, d.raster = some r → r.record ≠ n) →
        exec .displayRingAnnouncement s = .next s1) ∧
      (∀ r, a = .pinCancelled r.record → d.raster = some r →
        ∃ k, abandons .displayRingAnnouncement s1 r { d with
          raster := none, decays := 0, planes := decaySteps (s.fld idPersist) d.decays (d.landed k) }) ∧
      (∀ n b, a = .clear n b → d.raster = none → exec .displayRingAnnouncement s =
        .next { s1 with disp := { d with planes := cleared, redraw := false, nd := min d.nd n } }) ∧
      (∀ r n b, a = .clear n b → d.raster = some r →
        abandons .displayRingAnnouncement s1 r { d with
          raster := none, planes := cleared, decays := 0, redraw := false, nd := min d.nd n }) ∧
      (a = .emptied → d.raster = none → exec .displayRingAnnouncement s =
        .next { s1 with disp := { d with planes := cleared, sel := none, redraw := false } }) ∧
      (∀ r, a = .emptied → d.raster = some r →
        abandons .displayRingAnnouncement s1 r { d with
          raster := none, planes := cleared, decays := 0, sel := none, redraw := false }) ∧
      ((∃ n b, a = .clear n b) ∨ a = .emptied → d.raster.isSome = true →
        ∃ t, exec .displayRingAnnouncement s = .next t ∧ t.disp.planes = cleared ∧ t.disp.decays = 0 ∧
          t.disp.redraw = false ∧ (a = .emptied → t.disp.sel = none) ∧ t.freeCtr = s.freeCtr + 1 ∧
          Changes [.acq, .boxes, .disp, .ring, .freeCtr] s t))

/-- R158 and R166: SHOW_RECORD with its three cases, and CLEAR_DISPLAY. A SHOW_RECORD of a record that the ring holds is
answered OK in STOPPED, sets the selection and asks for a REDRAW and a re-evaluation. An IDLE rasteriser has its scheduling
point at once (R149, R150), and so has an IDLE evaluator (R125, R126, R128), at which a record that waits for its first
evaluation comes before the re-evaluation (an origin FIRST that it sets is log entry 17), and numbers that have left the ring can
open the gate (R138). A CLEAR_DISPLAY keeps
the selection and the drawn number and clears the planes; a rasterisation in flight is abandoned (R152), its pin ends (R113; a slot
offered is taken in the same step, log entry 40), and a scheduling point follows (log entry 43); with no claim and no work waiting nothing else
changes. -/
def Obligations.DisplayRequestsAct : Prop :=
  ∀ (tag : Byte) (p : List Byte) (s : State),
    let d := s.disp
    let cleared : Vector Memory 4 := Vector.replicate 4 []
    (p.length = 4 → s.takes 0x40 tag p = true →
      let n := argU p 0 4
      let found := n = 0 ∨ ∃ x, s.ring.order.find? (fun y => y.number == n) = some x
      let sel := if n = 0 then none else some n
      let asked : State := { s.replied 0x40 tag .ok [] with disp := { d with sel := sel, redraw := true } }
      (s.acq.st ≠ .stopped → exec (.showRecord tag p) s = .next (s.replied 0x40 tag .notNow [])) ∧
      (s.acq.st = .stopped → ¬found → exec (.showRecord tag p) s = .next (s.replied 0x40 tag .empty [])) ∧
      (s.acq.st = .stopped → found →
        ∃ t, exec (.showRecord tag p) s = .next t ∧ t.link = (s.replied 0x40 tag .ok []).link ∧
          Changes [.disp, .ring, .meas, .boxes, .link] s t ∧
          t.boxes = { s.boxes with gateOpens := t.boxes.gateOpens } ∧ t.ring = { s.ring with pin := t.ring.pin }) ∧
      (s.acq.st = .stopped → found → d.raster.isSome = true → s.meas.eval.isSome = true →
        exec (.showRecord tag p) s = .next { asked with meas := { s.meas with reReq := true } }) ∧
      (∀ x, s.acq.st = .stopped → d.raster = none → s.meas.eval.isSome = true → s.ring.counter ≤ d.nd →
        (∀ y, s.ring.order.getLast? = some y → y.number ≤ d.nd) → s.ring.pin = none →
        s.ring.order.find? (fun y => y.number == x.number) = some x →
        (n = x.number ∧ n ≠ 0 ∨ n = 0 ∧ s.ring.order.getLast? = some x) →
        ∃ r, Drawn s r x .redraw ∧
          exec (.showRecord tag p) s = .next { s.replied 0x40 tag .ok [] with
            ring := { s.ring with pin := some x.number }
            disp := { d with sel := sel, raster := some r, redraw := false, planes := cleared }
            meas := { s.meas with reReq := true } }) ∧
      (s.acq.st = .stopped → found → d.raster.isSome = true ∨ s.ring.pin = none →
        ∃ u t, exec (.showRecord tag p) s = .next t ∧
          (d.raster.isSome = true → u = asked) ∧ (d.raster = none → DisplayScheduled asked u) ∧
          let v : State := { u with meas := { s.meas with reReq := true } }
          (s.meas.eval.isSome = true → t = v) ∧ (s.meas.eval = none → MeasScheduled v t))) ∧
    (s.takes 0x42 tag [] = true →
      (d.raster = none → exec (.clearDisplay tag []) s =
        .next { s.replied 0x42 tag .ok [] with disp := { d with planes := cleared, decays := 0 } }) ∧
      (d.raster.isSome = true →
        ∃ t, exec (.clearDisplay tag []) s = .next t ∧ t.disp.planes = cleared ∧ t.disp.decays = 0 ∧
          t.link = (s.replied 0x42 tag .ok []).link ∧
          Changes [.acq, .disp, .ring, .boxes, .freeCtr, .link] s t) ∧
      (∀ r, d.raster = some r →
        ∃ t, exec (.clearDisplay tag []) s = .next t ∧
          Abandoned (s.replied 0x42 tag .ok []) r { d with raster := none, planes := cleared, decays := 0 } t))

/-! ### The overlay -/

/-- R170 to R173, R178 and R223: DRAW with its three checks (the division of its payload into whole records, each record's
own form, the places of the queue), a faulty record's position counted from 1, SET_PALETTE, and the completions of the oldest record. A drawing
record writes the back buffer alone and leaves the queue; a copy makes the back buffer the presented picture, counts
the present and offers PRESENTED.

R174: a FILL in execution writes its colour to each panel pixel of its rectangle, both ends included, and to no other;
a reversed rectangle writes none. R175: a LINE writes its colour to its own pixels on the panel and to no other. R176: a
TEXT writes fg to the foreground pixels of its cells and, when bg is not 0, bg to their background pixels; the patterns of
the codes 33 to 126 and 128 to 159 are open (log entry 3). R177: a BITMAP writes its 1 bits and, when bg is not 0, its 0
bits; one whose data is too short writes nothing. That a record's pixels are written at its completion is log entry 36. -/
def Obligations.OverlayDrawsAndPresents : Prop :=
  (∀ (tag : Byte) (p : List Byte) (s : State),
     let o := s.ov
     let next (q : List DrawRec) : DrawerSt := match q with
       | [] => .idle
       | .present :: _ => .waitFrame
       | _ => .drawing
     (1 ≤ p.length → p.length ≤ 512 → s.takes 0x48 tag p = true →
       (∀ (pieces : List (List Byte)) (tail : List Byte), p = pieces.flatten ++ tail → (∀ q ∈ pieces, WholeRecord q) →
         tail ≠ [] → (∀ k, ¬WholeRecord (tail.take k)) →
         exec (.draw tag p) s = .next (s.replied 0x48 tag .badLength (leBytes 2 (pieces.length + 1)))) ∧
       (∀ (sound : List (List Byte)) (q : List Byte) (later : List (List Byte)), p = (sound ++ q :: later).flatten →
         (∀ x ∈ sound ++ q :: later, WholeRecord x) → (∀ x ∈ sound, ∃ r, RecordOf x r) → (¬∃ r, RecordOf q r) →
         exec (.draw tag p) s = .next (s.replied 0x48 tag .badValue (leBytes 2 (sound.length + 1)))) ∧
       (∀ (pieces : List (List Byte)) (rs : List DrawRec), p = pieces.flatten → (∀ q ∈ pieces, WholeRecord q) →
         List.Forall₂ RecordOf pieces rs →
         (32 < o.queue.length + rs.length → exec (.draw tag p) s = .next (s.replied 0x48 tag .queueFull [])) ∧
         (o.queue.length + rs.length ≤ 32 →
           exec (.draw tag p) s =
             .next { s.replied 0x48 tag .ok [byte rs.length, byte (o.queue.length + rs.length)] with
               ov := { o with queue := o.queue ++ rs, st := if o.st = .idle then next (o.queue ++ rs) else o.st } }))) ∧
     (paletteLen p.length = true → s.takes 0x49 tag p = true →
       let first := argU p 0 1
       let k := (p.length - 1) / 3
       (k = 0 → exec (.setPalette tag p) s =
         .next { s.replied 0x49 tag .ok [] with ov := { o with palette := defaultPalette } }) ∧
       (k ≠ 0 → 256 < first + k → exec (.setPalette tag p) s = .next (s.replied 0x49 tag .badValue [])) ∧
       (k ≠ 0 → first + k ≤ 256 →
         ∃ pal : Vector Rgb 256, exec (.setPalette tag p) s =
             .next { s.replied 0x49 tag .ok [] with ov := { o with palette := pal } } ∧
           ∀ i : Fin 256,
             (first ≤ i.val → i.val < first + k →
               pal[i] = ⟨byte (argU p (1 + 3 * (i.val - first)) 1), byte (argU p (2 + 3 * (i.val - first)) 1),
                 byte (argU p (3 + 3 * (i.val - first)) 1)⟩) ∧
             (i.val < first ∨ first + k ≤ i.val → pal[i] = o.palette[i]))) ∧
     (∀ r rest, o.st = .drawing → o.queue = r :: rest →
       ∃ t, exec .drawRecordComplete s = .next t ∧ Changes [.ov] s t ∧
         t.ov = { o with
           queue := rest, st := next rest
           bufA := if o.frontB then t.ov.bufA else o.bufA, bufB := if o.frontB then o.bufB else t.ov.bufB
           dropped := match r with
             | .bitmap _ _ w h _ _ data =>
               if data.length < h * ((w + 7) / 8) then min 4294967295 (o.dropped + 1) else o.dropped
             | _ => o.dropped } ∧
         ∀ a, a ∉ r.writes.map (·.1) → t.ov.back.read a = o.back.read a) ∧
     (∀ r rest, o.st = .copying → o.queue = r :: rest →
       let o' : Overlay := { o with
         bufA := if o.frontB then o.bufB else o.bufA, bufB := if o.frontB then o.bufB else o.bufA
         queue := rest, st := next rest, presents := (o.presents + 1) % 65536 }
       exec .presentCopyComplete s =
         .next (({ s with ov := o' } : State).offer (.presented ((o.presents + 1) % 65536))))) ∧
  (∀ (s : State) (x0 y0 x1 y1 : Int) (v : Byte) (rest : List DrawRec), s.ov.st = .drawing → s.ov.bufA.wf = true →
     s.ov.bufB.wf = true →
     let inLine (x y : Nat) : Prop :=
       let dx := x1 - x0
       let dy := y1 - y0
       let n := max dx.natAbs dy.natAbs
       if n = 0 then (x : Int) = x0 ∧ (y : Int) = y0
       else ∃ k ≤ n, (x : Int) = x0 + roundDiv (k * dx) n ∧ (y : Int) = y0 + roundDiv (k * dy) n
     (s.ov.queue = .fill x0 y0 x1 y1 v :: rest →
       ∃ t, exec .drawRecordComplete s = .next t ∧ ∀ x y : Nat, x < 800 → y < 480 →
         t.ov.back.read (800 * y + x) =
           if x0 ≤ x ∧ (x : Int) ≤ x1 ∧ y0 ≤ y ∧ (y : Int) ≤ y1 then v else s.ov.back.read (800 * y + x)) ∧
     (s.ov.queue = .line x0 y0 x1 y1 v :: rest →
       ∃ t, exec .drawRecordComplete s = .next t ∧ ∀ x y : Nat, x < 800 → y < 480 →
         (inLine x y → t.ov.back.read (800 * y + x) = v) ∧
         (¬inLine x y → t.ov.back.read (800 * y + x) = s.ov.back.read (800 * y + x)))) ∧
  (∀ (s : State) (x0 y0 : Int) (fg bg : Byte) (rest : List DrawRec), s.ov.st = .drawing → s.ov.bufA.wf = true →
     s.ov.bufB.wf = true →
     let inked (new old : Byte) (on : Bool) : Prop := new = if on = true then fg else if bg = 0 then old else bg
     (∀ codes : List Byte, s.ov.queue = .text x0 y0 fg bg codes :: rest →
       let inCell (j x y : Nat) : Prop := x0 + 8 * j ≤ x ∧ (x : Int) < x0 + 8 * j + 8 ∧ y0 ≤ y ∧ (y : Int) < y0 + 16
       ∃ t, exec .drawRecordComplete s = .next t ∧ ∀ x y : Nat, x < 800 → y < 480 →
         let new := t.ov.back.read (800 * y + x)
         let old := s.ov.back.read (800 * y + x)
         (∀ j code, codes[j]? = some code → inCell j x y →
           (code.toNat = 32 → inked new old false) ∧
           (code.toNat < 32 ∨ code.toNat = 127 ∨ 160 ≤ code.toNat → inked new old true) ∧
           ((33 ≤ code.toNat ∧ code.toNat ≤ 126) ∨ (128 ≤ code.toNat ∧ code.toNat ≤ 159) →
             inked new old (Config.glyphPixel code (8 * (y - y0).toNat + (x - (x0 + 8 * j)).toNat)))) ∧
         ((∀ j < codes.length, ¬inCell j x y) → new = old)) ∧
     (∀ (w h : Nat) (data : List Byte), s.ov.queue = .bitmap x0 y0 w h fg bg data :: rest →
       ∃ t, exec .drawRecordComplete s = .next t ∧ ∀ x y : Nat, x < 800 → y < 480 →
         let new := t.ov.back.read (800 * y + x)
         let old := s.ov.back.read (800 * y + x)
         let inside := x0 ≤ x ∧ (x : Int) < x0 + w ∧ y0 ≤ y ∧ (y : Int) < y0 + h
         let i := (x - x0).toNat
         let k := (y - y0).toNat * ((w + 7) / 8) + i / 8
         (data.length < h * ((w + 7) / 8) → new = old) ∧
         (¬inside → new = old) ∧
         (h * ((w + 7) / 8) ≤ data.length → inside → ∀ b, data[k]? = some b → inked new old (b.getLsbD (7 - i % 8)))))

/-! ### The setup store -/

/-- R184, R185, R188 and R192: SAVE, ERASE and CAL_WRITE with their checks in order; an accepted one begins a 12 ms operation
and makes a reservation (R213) in place of a reply. For SAVE and ERASE, that NOT_NOW is answered before the arguments are
checked is log entry 20. -/
def Obligations.StoreOperationsBegin : Prop :=
  ∀ (tag : Byte) (p : List Byte) (s : State),
    let t := s.store
    let unready := t.loaded = false ∨ t.st = .loading
    let free := t.st = .idle ∧ t.lastPending = false
    let occupied := t.loaded = true ∧ ((∃ op e, t.st = .writing op e) ∨ (t.lastPending = true ∧ t.st = .idle))
    let slot := argU p 0 1
    let begun (code : Byte) (op : StoreOp) : State := { s with
      store := { t with st := .writing op (s.clock.now + 12000000), replyCancelled := false }
      link := { s.takeFrame.link with reservations := s.link.reservations ++ [⟨tag, code⟩] } }
    (1 ≤ p.length → p.length ≤ 65 → s.takes 0x50 tag p = true →
      (unready → exec (.save tag p) s = .next (s.replied 0x50 tag .notNow [])) ∧
      (¬unready → slot = 0 ∨ 16 < slot → exec (.save tag p) s = .next (s.replied 0x50 tag .badValue [])) ∧
      (1 ≤ slot → slot ≤ 16 → occupied → exec (.save tag p) s = .next (s.replied 0x50 tag .busy [])) ∧
      (∀ i : Fin 17, i.val = slot → i ≠ 0 → t.loaded = true → free →
        let name := ((p.drop 1).take 16).map (fun b => if 32 ≤ b.toNat ∧ b.toNat ≤ 126 then b else 63)
        exec (.save tag p) s = .next (begun 0x50 (.save i name s.setup.live
          (min 4294967295 (t.dir[i].count + 1)) s.setup.gen (decide (name ≠ p.drop 1)))))) ∧
    (p.length = 1 → s.takes 0x52 tag p = true →
      (unready → exec (.erase tag p) s = .next (s.replied 0x52 tag .notNow [])) ∧
      (¬unready → slot = 0 ∨ 16 < slot → exec (.erase tag p) s = .next (s.replied 0x52 tag .badValue [])) ∧
      (1 ≤ slot → slot ≤ 16 → occupied → exec (.erase tag p) s = .next (s.replied 0x52 tag .busy [])) ∧
      (∀ i : Fin 17, i.val = slot → i ≠ 0 → t.loaded = true → free →
        exec (.erase tag p) s = .next (begun 0x52 (.erase i)))) ∧
    (p.length = 5 → s.takes 0x54 tag p = true →
      let ch := argU p 0 1
      let k := argU p 1 1
      let g := argU p 2 2
      let o := argS p 4 1
      let inRange := 1 ≤ ch ∧ ch ≤ 4 ∧ k ≤ 12 ∧ 14746 ≤ g ∧ g ≤ 18022 ∧ -64 ≤ o ∧ o ≤ 63
      (unready ∨ s.pins.straps.factory = false →
        exec (.calWrite tag p) s = .next (s.replied 0x54 tag .notNow [])) ∧
      (¬unready → s.pins.straps.factory = true → ¬inRange →
        exec (.calWrite tag p) s = .next (s.replied 0x54 tag .badValue [])) ∧
      (occupied → s.pins.straps.factory = true → inRange →
        exec (.calWrite tag p) s = .next (s.replied 0x54 tag .busy [])) ∧
      (∀ e : Fin 52, e.val = 13 * (ch - 1) + k → t.loaded = true → free → s.pins.straps.factory = true → inRange →
        (t.calRam[e] ≠ .unwritten → exec (.calWrite tag p) s = .next (s.replied 0x54 tag .writeOnce [])) ∧
        (t.calRam[e] = .unwritten → exec (.calWrite tag p) s = .next (begun 0x54 (.calWrite e g o)))))

/-- R183 to R185, R188, R192, R195 and R201: the operation in flight completes at its time. Its slot or entry and the
directory or the RAM copy take what was written, its reply takes the reserved place unless it is
cancelled, and a LAST write or else a load that waited behind it begins. The completion of a LAST write in the step LAST_WRITE
of a shutdown queues the STANDBY reply and starts the 200 ms of grace; behind it another LAST write can wait, which begins,
and then the completion of the first is not reported (log entry 21). That the clock stands at the event's due time after any
of them is the model's choice (log entry 6). -/
def Obligations.StoreOperationsComplete : Prop :=
  ∀ (s : State) (op : StoreOp) (e : Nat), s.store.st = .writing op e →
    let t := s.store
    let now := max s.clock.now e
    let at' : State := { s with clock := { s.clock with now := now } }
    let idle (u : Store) : Store := { u with st := .idle, replyCancelled := false }
    let waits := t.lastPending = true ∨ t.loadPending = true
    (∀ i name vals n gen cl, op = .save i name vals n gen cl → ¬waits →
      exec .storeWriteComplete s = .next ((if t.replyCancelled then at' else at'.completeLong 0x50
          (if cl then .clamped else .ok) ([byte i.val, byte name.length] ++ name ++ leBytes 4 n ++ leBytes 2 gen)).modStore
        (fun _ => idle { t with slots := t.slots.set i (.valid name vals n), dir := t.dir.set i ⟨.valid, name, n⟩ }))) ∧
    (∀ i, op = .erase i → ¬waits →
      exec .storeWriteComplete s = .next ((if t.replyCancelled then at' else at'.completeLong 0x52 .ok
          [byte i.val]).modStore
        (fun _ => idle { t with slots := t.slots.set i .erased, dir := t.dir.set i ⟨.erased, [], 0⟩ }))) ∧
    (∀ (i : Fin 52) g o, op = .calWrite i g o → ¬waits → t.calArea[i] = .erased →
      exec .storeWriteComplete s = .next (((if t.replyCancelled then at' else at'.completeLong 0x54 .ok
          ([byte (i.val / 13 + 1), byte (i.val % 13)] ++ leInt 2 g ++ leInt 1 o)).modStore
        (fun _ => idle { t with calArea := t.calArea.set i (.data g o), calRam := t.calRam.set i (.written g o) })).modFe
        (fun f => { f with cal := f.cal.set i ⟨g, o, true⟩ }))) ∧
    (∀ vals n, op = .last vals n → ¬waits →
      let done := idle { t with slots := t.slots.set 0 (.valid [] vals n), dir := t.dir.set 0 ⟨.valid, [], n⟩ }
      (¬(s.power.st = .shuttingDown ∧ s.power.downStep = .lastWrite) →
        exec .storeWriteComplete s = .next { at' with store := done }) ∧
      (s.power.st = .shuttingDown → s.power.downStep = .lastWrite →
        exec .storeWriteComplete s =
          .next { (if s.power.replyCancelled then at' else at'.completeLong 0x58 .ok []) with
            store := done
            power := { s.power with downStep := .grace, graceEnd := some (now + 200000000) } })) ∧
    (waits → (∀ (i : Fin 52) g o, op = .calWrite i g o → t.calArea[i] = .erased) →
      let done : Store := idle (match op with
        | .save i name vals n _ _ => { t with slots := t.slots.set i (.valid name vals n), dir := t.dir.set i ⟨.valid, name, n⟩ }
        | .erase i => { t with slots := t.slots.set i .erased, dir := t.dir.set i ⟨.erased, [], 0⟩ }
        | .calWrite i g o => { t with
            calArea := t.calArea.set i (.data g o), calRam := t.calRam.set i (.written g o) }
        | .last vals n => { t with slots := t.slots.set 0 (.valid [] vals n), dir := t.dir.set 0 ⟨.valid, [], n⟩ })
      let own : State := if t.replyCancelled then at' else match op with
        | .save i name _ n gen cl => at'.completeLong 0x50 (if cl then .clamped else .ok)
            ([byte i.val, byte name.length] ++ name ++ leBytes 4 n ++ leBytes 2 gen)
        | .erase i => at'.completeLong 0x52 .ok [byte i.val]
        | .calWrite i g o =>
          at'.completeLong 0x54 .ok ([byte (i.val / 13 + 1), byte (i.val % 13)] ++ leInt 2 g ++ leInt 1 o)
        | .last _ _ => at'
      let replied : State := match op with
        | .calWrite i g o => { own with fe := { s.fe with cal := s.fe.cal.set i ⟨g, o, true⟩ } }
        | _ => own
      let reports := op.isLast = true ∧ s.power.st = .shuttingDown ∧ s.power.downStep = .lastWrite
      let loading : Store := { done with st := .loading, loadPending := false, loadHanded := false }
      (t.lastPending = true →
        exec .storeWriteComplete s = .next { replied with store := { done with
          lastPending := false
          st := .writing (.last s.setup.live (min 4294967295 (done.dir[(0 : Fin 17)].count + 1))) (now + 12000000) } }) ∧
      (t.lastPending = false → ¬reports → exec .storeWriteComplete s = .next { replied with store := loading }) ∧
      (t.lastPending = false → reports →
        exec .storeWriteComplete s =
          .next { (if s.power.replyCancelled then at' else at'.completeLong 0x58 .ok []) with
            store := loading
            power := { s.power with downStep := .grace, graceEnd := some (now + 200000000) } }))

/-- R184, R186 and R187: RECALL by the directory and by the slot itself, with the stored values adjusted into their fields
and the answer CLAMPED when one was (R16); and R194 with R197 and R198: the load fills the directory, the RAM copy and the
calibration table, hands the LAST slot or the defaults over with source POWER_UP as one change that every block is told of
(R16 to R18), and lets the Power Controller enter ON. R203: where a RESET came after step 3 of the load, only the rest of it
is left; the mark of it is the model's field (log entry 37). Of RECALL, that NOT_NOW is answered before BAD_VALUE, and EMPTY and CORRUPT after BUSY, is
log entry 20, and that its notice is offered before its reply is queued is log entry 38. -/
def Obligations.RecallAndLoadHandTheSetupOver : Prop :=
  (∀ (tag : Byte) (p : List Byte) (s : State), p.length = 1 → s.takes 0x51 tag p = true →
    let t := s.store
    let unready := t.loaded = false ∨ t.st = .loading
    let slot := argU p 0 1
    (unready → exec (.recall tag p) s = .next (s.replied 0x51 tag .notNow [])) ∧
    (¬unready → 16 < slot → exec (.recall tag p) s = .next (s.replied 0x51 tag .badValue [])) ∧
    (t.loaded = true → slot ≤ 16 → (∃ op e, t.st = .writing op e) ∨ (t.lastPending = true ∧ t.st = .idle) →
      exec (.recall tag p) s = .next (s.replied 0x51 tag .busy [])) ∧
    (∀ i : Fin 17, i.val = slot → t.loaded = true → t.st = .idle → t.lastPending = false →
      (t.dir[i].cls = .erased → exec (.recall tag p) s = .next (s.replied 0x51 tag .empty [])) ∧
      (t.dir[i].cls = .corrupt → exec (.recall tag p) s = .next (s.replied 0x51 tag .corrupt [])) ∧
      (t.dir[i].cls = .valid → t.slots[i] = .corrupt → exec (.recall tag p) s =
        .next { s.replied 0x51 tag .corrupt [] with store := { t with dir := t.dir.set i ⟨.corrupt, [], 0⟩ } }) ∧
      (t.dir[i].cls = .valid → t.slots[i] = .erased → exec (.recall tag p) s =
        .next { s.replied 0x51 tag .empty [] with store := { t with dir := t.dir.set i ⟨.erased, [], 0⟩ } }) ∧
      (∀ name vals n, t.dir[i].cls = .valid → t.slots[i] = .valid name vals n →
        ∃ u, exec (.recall tag p) s = .next u ∧ Adjusted vals u.setup.live ∧
          u.setup.gen = (if u.setup.live = s.setup.live then s.setup.gen else nextGen s.setup.gen) ∧
          u.setup.undo = (if u.setup.live = s.setup.live then s.setup.undo
            else pushUndo s.setup.undo (.snapshot s.setup.live)) ∧
          u.link = ((if u.setup.live = s.setup.live then s.takeFrame
            else s.takeFrame.offer (.setupReplaced .recall u.setup.gen .normal)).pushReply
              ⟨tag, 0x51, if u.setup.live = vals then .ok else .clamped, byte slot :: leBytes 2 u.setup.gen⟩).link ∧
          (u.setup.live ≠ s.setup.live →
            Announced s u ⟨changesTo s.setup.live u.setup.live, false, .recall, nextGen s.setup.gen⟩) ∧
          (u.setup.live = s.setup.live → Changes [.link] s u) ∧ SetupFrame s u))) ∧
  (∀ s : State, s.store.st = .loading → s.store.loadHanded = false →
    ∃ u, exec .loadComplete s = .next u ∧ u.store.loaded = true ∧ u.store.st = .idle ∧ u.store.loadHanded = false ∧
      u.store.slots = s.store.slots ∧
      u.store.calArea = s.store.calArea ∧ u.setup.undo = [] ∧
      (∀ i : Fin 17,
        (s.store.slots[i] = .erased → u.store.dir[i] = ⟨.erased, [], 0⟩) ∧
        (s.store.slots[i] = .corrupt → u.store.dir[i] = ⟨.corrupt, [], 0⟩) ∧
        (∀ name vals n, s.store.slots[i] = .valid name vals n → u.store.dir[i] = ⟨.valid, name, n⟩)) ∧
      (∀ e : Fin 52,
        (s.store.calArea[e] = .erased → u.store.calRam[e] = .unwritten ∧ u.fe.cal[e] = ⟨16384, 0, false⟩) ∧
        (s.store.calArea[e] = .corrupt → u.store.calRam[e] = .corrupt ∧ u.fe.cal[e] = ⟨16384, 0, false⟩) ∧
        (∀ g o, s.store.calArea[e] = .data g o →
          (14746 ≤ g ∧ g ≤ 18022 ∧ -64 ≤ o ∧ o ≤ 63 → u.store.calRam[e] = .written g o ∧ u.fe.cal[e] = ⟨g, o, true⟩) ∧
          (¬(14746 ≤ g ∧ g ≤ 18022 ∧ -64 ≤ o ∧ o ≤ 63) →
            u.store.calRam[e] = .corrupt ∧ u.fe.cal[e] = ⟨16384, 0, false⟩))) ∧
      (∀ name vals n, s.store.slots[(0 : Fin 17)] = .valid name vals n → Adjusted vals u.setup.live) ∧
      ((∀ name vals n, s.store.slots[(0 : Fin 17)] ≠ .valid name vals n) → u.setup.live = defaultVals) ∧
      u.setup.gen = nextGen s.setup.gen ∧
      Announced s u ⟨changesTo s.setup.live u.setup.live, true, .powerUp, nextGen s.setup.gen⟩ ∧
      (∀ reason, (reason = .normal ↔ ∃ name vals n, s.store.slots[(0 : Fin 17)] = .valid name vals n) →
        reason = .normal ∨ reason = .lastInvalid →
        let told := s.offer (.setupReplaced .powerUp (nextGen s.setup.gen) reason)
        let starts := s.power.st = .poweringUp ∧ s.power.upStep = .load ∧ s.acq.fault = false ∧ s.acq.st = .stopped
        (starts → u.link = (told.offer (.acqState u.acq.st .run .power)).link) ∧ (¬starts → u.link = told.link)) ∧
      (s.power.st = .poweringUp → s.power.upStep = .load →
        u.power.st = .on ∧ u.clock.epoch = s.clock.now ∧ u.acq.cmp.running = true ∧ u.panel.blinkEnd = none ∧
          (s.acq.st = .stopped → s.acq.fault = false → u.acq.st ≠ .stopped ∧ u.acq.mode = .run) ∧
          (s.acq.fault = true → u.acq.st = s.acq.st)) ∧
      (s.power.st ≠ .poweringUp → u.power = s.power ∧ u.acq = s.acq)) ∧
  (∀ s : State, s.store.st = .loading →
    exec .loadComplete s = exec .loadComplete s.loadHandover ∧ s.loadHandover.store.st = .loading ∧
      s.loadHandover.store.loadHanded = true) ∧
  (∀ s : State, s.store.st = .loading → s.store.loadHanded = true →
    ∃ u, exec .loadComplete s = .next u ∧ u.store = { s.store with loaded := true, st := .idle, loadHanded := false } ∧
      u.setup = s.setup ∧ u.fe = s.fe ∧
      (s.power.st = .poweringUp → s.power.upStep = .load →
        u.power.st = .on ∧ u.clock.epoch = s.clock.now ∧ u.acq.cmp.running = true ∧
          (s.acq.st = .stopped → s.acq.fault = false → u.acq.st ≠ .stopped ∧ u.acq.mode = .run)))

/-! ### Power -/

/-- R5, R196, R197, R199 and R202: what starts and ends a session. A supply reset with AUTO_ON low leaves STANDBY with the
supply-reset values of every block, a cut write CORRUPT; with AUTO_ON high, or at a POWER press in STANDBY, the power-
up protocol begins. In ON a press starts the hold timer and offers POWER_KEY, and a release stops it; in LAST_WRITE a
press abandons the shutdown: the STANDBY request is answered STANDBY_ABORTED, and a saved running acquisition starts again
and offers ACQ_STATE with cause POWER; otherwise the key does nothing. That the queue of commands, the pin levels and the
model's free-value counter outlive a supply reset is log entry 18; the frame start count and the hold from the treated
press are the model's (log entries 30 and 35). The state that a supply reset leaves is given as State.reset, with the values
that the data sheet does not state: the link rate, the first scan's time, the origin of a result and the record number of
the last verdict (log entry 17). -/
def Obligations.PowerKeyAndSupplyResetAct : Prop :=
  ∀ (s : State),
    let rate (p : Straps) : Nat := if p.rateB then (if p.rateA then 24 else 12) else (if p.rateA then 6 else 3)
    let begun (u t : State) (cause : StartCause) (clearFlag : Bool) : Prop :=
      t.power = { u.power with
        st := .poweringUp, cause := cause, forcedOff := if clearFlag then false else u.power.forcedOff
        upStep := if u.pins.feReady then .load else .feWait } ∧
      t.link = { u.link with
        up := true, rate := rate u.pins.straps, rx := .hunt, byteEnd := none, rxq := [], replies := [], notices := []
        reservations := [], tx := none } ∧
      t.disp = { u.disp with scanning := true, frameBase := u.clock.now, frameIx := 0 } ∧
      t.panel.blinkGreen = true ∧ t.panel.blinkEnd = some (u.clock.now + 250000000) ∧
      (∀ e : Fin 12, t.panel.encs[e].refA = u.pins.encA[e] ∧ t.panel.encs[e].refB = u.pins.encB[e] ∧
        t.panel.encs[e].sub = 0) ∧
      t.store.loaded = false ∧ t.clock = u.clock ∧ t.acq = u.acq ∧ t.setup = u.setup ∧
      (u.pins.feReady = false → t.fe.cond = .waitReady ∧ t.fe.waitEnd = some (u.clock.now + 500000000) ∧
        t.store = { u.store with loaded := false }) ∧
      (u.pins.feReady = true → t.fe.cond = .up ∧ t.fe.waitEnd = none ∧
        t.store = (if u.store.st = .idle then { u.store with
            loaded := false, st := .loading, loadPending := false, loadHanded := false }
          else { u.store with loaded := false, loadPending := true }))
    (∀ p : Straps,
      ∃ z : State, z = { State.reset with
          pending := s.pending, freeCtr := s.freeCtr, pins := { s.pins with straps := p }, store := z.store
          panel := z.panel } ∧
        (p.autoOn = false → exec (.supplyReset p) s = .next z) ∧
        (p.autoOn = true → ∃ t, exec (.supplyReset p) s = .next t ∧ begun z t .autoOn false) ∧
        z.panel = { State.reset.panel with encs := z.panel.encs } ∧
        (∀ e : Fin 12, z.panel.encs[e] = ⟨s.pins.encA[e], s.pins.encB[e], 0, 0, none⟩) ∧
        z.store = { State.reset.store with slots := z.store.slots, calArea := z.store.calArea } ∧
        ((∀ op e, s.store.st ≠ .writing op e) → z.store.slots = s.store.slots ∧ z.store.calArea = s.store.calArea) ∧
        (∀ i name vals n g cl e, s.store.st = .writing (.save i name vals n g cl) e →
          z.store.slots = s.store.slots.set i .corrupt ∧ z.store.calArea = s.store.calArea) ∧
        (∀ vals n e, s.store.st = .writing (.last vals n) e →
          z.store.slots = s.store.slots.set 0 .corrupt ∧ z.store.calArea = s.store.calArea) ∧
        (∀ i e, s.store.st = .writing (.erase i) e → z.store.calArea = s.store.calArea ∧
          z.store.slots = if s.store.slots[i] = .erased then s.store.slots else s.store.slots.set i .corrupt) ∧
        (∀ i g o e, s.store.st = .writing (.calWrite i g o) e → z.store.slots = s.store.slots ∧
          z.store.calArea = s.store.calArea.set i .corrupt)) ∧
    (∀ tm a rest, s.panel.due = ⟨0, true, tm, a⟩ :: rest →
      let s1 : State := { s with panel := { s.panel with due := rest } }
      (s.power.st = .standby →
        ∃ t, exec (.keyPress 0) s = .next t ∧
          begun s1 t (if s.power.forcedOff then .forcedOff else .powerKey) true) ∧
      (s.power.st = .poweringUp ∨ (s.power.st = .shuttingDown ∧ s.power.downStep = .grace) →
        exec (.keyPress 0) s = .next s1) ∧
      (s.power.st = .on → exec (.keyPress 0) s = .next { s1.offer (.powerKey tm) with
        power := { s.power with holdEnd := some (s.clock.now + 4000000000) } }) ∧
      (s.power.st = .shuttingDown → s.power.downStep = .lastWrite →
        ∃ t, exec (.keyPress 0) s = .next t ∧
          t.power = { s.power with st := .on, replyCancelled := false, saved := none } ∧
          t.store = { s.store with lastPending := false } ∧ t.clock = s.clock ∧ t.setup = s.setup ∧
          t.panel = { s1.panel with blinkGreen := false, blinkEnd := none } ∧
          (∀ m, s.power.saved = some (true, m) → s.acq.fault = false → s.acq.st = .stopped →
            t.acq.st ≠ .stopped ∧ t.acq.mode = m ∧
            t.link = ((if s.power.replyCancelled then s else s.completeLong 0x58 .standbyAborted []).offer
              (.acqState t.acq.st m .power)).link ∧
            t = ({ (if s.power.replyCancelled then s1 else s1.completeLong 0x58 .standbyAborted []) with
              power := t.power, store := t.store, panel := t.panel } : State).started m .power) ∧
          ((∀ m, s.power.saved ≠ some (true, m)) ∨ s.acq.fault = true → t.acq = s.acq ∧
            t.link = (if s.power.replyCancelled then s else s.completeLong 0x58 .standbyAborted []).link))) ∧
    (∀ tm a rest, s.panel.due = ⟨0, false, tm, a⟩ :: rest →
      let s1 : State := { s with panel := { s.panel with due := rest } }
      (s.power.st = .on → exec (.keyRelease 0) s = .next { s1 with power := { s.power with holdEnd := none } }) ∧
      (s.power.st ≠ .on → exec (.keyRelease 0) s = .next s1))

/-- R200, R201 and R204: STANDBY is accepted in ON alone: the acquisition is saved, the power stop discards the capture in
flight and counts it (R101, R104) or withdraws the claim that waits, which declines an offer still on its way (R109, log entry
40), ACQ_STATE is offered with cause POWER when acquisition was running, and the LAST write begins
or waits. The grace timer's expiry makes a standby entry, and so does the hold timer's in ON, which sets the forced-off
flag; every block takes the values of Table 45. That the clock then stands at the event's due time is the model's
choice (log entry 6). What the blocks do in one fixed order there is log entry 19; that announcements on their way are
dropped, so that only those of the entry itself wait, is log entry 13; that the display is handed the cancelled pin before the
emptied announcement is log entry 42; that the recognised changes of the POWER key wait on and the others are dropped is log
entry 35. The record number of the last verdict, the origin of a result and the phase in which LED 0's blink is left, which
Table 45 does not give, are log entry 17; the buffer that the next frame is sent from is log entry 32. -/
def Obligations.ShutdownEndsInStandby : Prop :=
  ∀ (tag : Byte) (s : State),
    (s.takes 0x58 tag [] = true →
      (s.power.st = .shuttingDown → exec (.standby tag []) s = .next (s.replied 0x58 tag .busy [])) ∧
      (s.power.st = .poweringUp ∨ s.power.st = .standby →
        exec (.standby tag []) s = .next (s.replied 0x58 tag .notNow [])) ∧
      (s.power.st = .on →
        ∃ u t, exec (.standby tag []) s = .next t ∧
          (s.acq.st = .stopped → u = s.takeFrame) ∧
          (s.acq.st ≠ .stopped → AcqEnded s u ∧ u.acq.fault = s.acq.fault ∧
            u.acq.discStop = discarded s.acq.discStop s.acq.cap ∧ u.acq.discSetup = s.acq.discSetup ∧
            u.acq.discFail = s.acq.discFail ∧ u.acq.discFault = s.acq.discFault ∧
            u.link = (s.takeFrame.offer (.acqState .stopped s.acq.mode .power)).link) ∧
          t = { u with
            power := { s.power with
              st := .shuttingDown, downStep := .lastWrite, saved := some (decide (s.acq.st ≠ .stopped), s.acq.mode)
              holdEnd := none }
            panel := { s.panel with blinkGreen := true, blinkEnd := some (s.clock.now + 250000000) }
            link := { u.link with reservations := s.link.reservations ++ [⟨tag, 0x58⟩] }
            store := t.store } ∧
          (s.store.st = .idle → t.store = { s.store with
            lastPending := false, replyCancelled := false
            st := .writing (.last s.setup.live (min 4294967295 (s.store.dir[(0 : Fin 17)].count + 1)))
              (s.clock.now + 12000000) }) ∧
          (s.store.st ≠ .idle → t.store = { s.store with lastPending := true }))) ∧
    (∀ e, s.power.graceEnd = some e →
      ∃ t, exec .graceTimerExpiry s = .next t ∧ StandbyEntered s t (max s.clock.now e) s.power.forcedOff) ∧
    (∀ e, s.power.st = .on → s.power.holdEnd = some e →
      ∃ t, exec .holdTimerExpiry s = .next t ∧ StandbyEntered s t (max s.clock.now e) true)

/-- R219 with R28, R57, R102, R123, R145, R167, R181, R190 and R203: a RESET in each of the orders that R102 and R123
leave open (`o`), and before or after the hand-over of a load in flight (R203), which the load does not make again. That both
are operands is log entry 37; the order of the other blocks, and that announcements on their way stay, is log entry 19; that
the recognised key changes that wait are kept (`panel.due`) is log entry 35; after it the overlay is scanned out from buffer A
(log entry 32); the transmission time of the reply is rounded up (log entry 29). A frame in transmission is completed (R219),
except that the reply of a long operation whose transmission began at this very moment counts as still queued and is flushed
(R190, log entry 45). Of the Measurement Unit's reset values the
record number of the last verdict and the origin of a result are log entry 17. The evaluation gate is OPEN afterwards, and one
that was CLOSED is told to the engine once (R138, R145). -/
def Obligations.ResetRestoresTheDefaults : Prop :=
  ∀ (o : ResetOrder) (tag : Byte) (z : State), z.takes 0x63 tag [] = true →
    let s := if o.afterHandover then z.loadHandover else z
    ∃ t, exec (.reset o tag []) z = .next t ∧
      t.setup = ⟨defaultVals, nextGen s.setup.gen, []⟩ ∧ (∃ a ∈ t.boxes.fe, a.whole = true) ∧
      (∃ a ∈ t.boxes.acq, a.whole = true) ∧
      t.clock = { s.clock with epoch := s.clock.now } ∧ t.pins = s.pins ∧ t.ov = overlayInitial ∧
      t.meas = measInitial ∧ t.gateShutNow = false ∧
      (s.meas.gateShut = s.gateShutNow → t.boxes.gateOpens = s.boxes.gateOpens + bit s.meas.gateShut) ∧
      t.panel = { s.panel with
        queue := [], actions := defaultActions, bindings := defaultBindings, encs := t.panel.encs
        overrides := Vector.replicate 12 .auto, hostLeds := Vector.replicate 12 false, tone := none } ∧
      (∀ e : Fin 12, t.panel.encs[e] = { s.panel.encs[e] with illegal := 0, window := none }) ∧
      t.disp = { s.disp with
        planes := Vector.replicate 4 [], raster := none, nd := 0, passed := 0, redraw := false, decays := 0
        sel := none } ∧
      t.ring.order = [] ∧ t.ring.counter = 0 ∧ t.ring.lock1 = none ∧ t.ring.lock2 = none ∧ t.ring.pin = none ∧
      t.ring.geomPending = false ∧
      t.acq.mode = .run ∧ t.acq.pendingForce = false ∧ t.acq.lastTrig = none ∧ t.acq.rateHeld = none ∧
      t.acq.discSetup = 0 ∧ t.acq.discStop = 0 ∧ t.acq.discFail = 0 ∧ t.acq.discFault = 0 ∧
      t.acq.fault = s.acq.fault ∧ (t.acq.st ≠ .stopped ↔ s.power.st = .on ∧ s.acq.fault = false) ∧
      t.store = { s.store with replyCancelled := t.store.replyCancelled } ∧
      ((∃ op e, s.store.st = .writing op e) → t.store.replyCancelled = true) ∧
      t.power = { s.power with
        replyCancelled := (s.power.replyCancelled ||
          decide (s.power.st = .shuttingDown ∧ s.power.downStep = .lastWrite)) } ∧
      t.link = { s.link with
        rxq := [], reservations := [], lost := 0, mask := 0x0E3F, latched := Vector.replicate 6 false
        errors := Vector.replicate 6 0, replies := t.link.replies, notices := t.link.notices, tx := t.link.tx } ∧
      (let completion (x : Transmission) : Prop :=
         x.frame.kind = 2 ∧ x.frame.code ∈ ([0x50, 0x52, 0x54, 0x58] : List Byte) ∧
           x.frame.status ∈ ([0, 1, 13] : List Byte) ∧
           x.endAt = s.clock.now + frameTime s.link.rate x.frame.payload.length
       ((s.link.tx = none ∨ ∃ x, s.link.tx = some x ∧ completion x) → t.link.replies = [] ∧
         t.link.tx = some ⟨⟨2, tag, 0x63, 0, []⟩, s.clock.now + frameTime s.link.rate 0⟩) ∧
       (∀ x, s.link.tx = some x → ¬completion x →
         t.link.replies = [⟨tag, 0x63, .ok, []⟩] ∧ t.link.tx = some x)) ∧
      (t.link.notices = [.setupReplaced .reset (nextGen s.setup.gen) .normal, .acqState t.acq.st .run .reset] ∨
        t.link.notices = [.acqState t.acq.st .run .reset, .setupReplaced .reset (nextGen s.setup.gen) .normal])

/-! ### The host link -/

/-- R208, R209, R211 and R221: the bytes of a request frame, fed to a receiver in HUNT in their order, put that very frame
into the receive queue as the newest; with four frames waiting the newest of those is lost with an OVERRUN. -/
def Obligations.WellFormedFramesAreReceived : Prop :=
  ∀ (f : Frame) (s : State), f.kind = 1 → f.payload.length ≤ 512 → s.link.up = true → s.link.rx = .hunt →
    ∃ (l : List Byte) (b : Byte) (t : State), f.bytes = l ++ [b] ∧
      Runs (l.map Instr.receivedByte ++ [.frameReceived b]) s t ∧
      (s.link.rxq.length < 4 →
        t = { s with link := { s.link with byteEnd := none, rxq := s.link.rxq ++ [f] } }) ∧
      (∀ older g, s.link.rxq = older ++ [g] → 3 ≤ older.length →
        t = ({ s with
          link := { s.link with
            byteEnd := none, rxq := older ++ [f], latched := s.link.latched.set 4 true
            errors := s.link.errors.set 4 (min 65535 (s.link.errors[(4 : Fin 6)] + 1)) } } : State).offer
              (.linkError .overrun (some g.tag)))

/-- R208 to R210: a byte in HUNT, a refusal for each cause with no start mark among the bytes looked at again, the false
start mark followed by another, and a break with its end. That the clock then stands at the event's due time is the
model's choice (log entry 6). -/
def Obligations.ReceiverRefusesAndBreaks : Prop :=
  ∀ (s : State), s.link.up = true →
    let refused (s' : State) (c : LinkErr) (tag : Option Byte) : State :=
      ({ s' with
        link := { s'.link with
          rx := .hunt, byteEnd := none, latched := s'.link.latched.set c.ix true
          errors := s'.link.errors.set c.ix (min 65535 (s'.link.errors[c.ix] + 1)) } } : State).offer (.linkError c tag)
    (∀ b, s.link.rx = .hunt → b ≠ 0xC3#8 →
      exec (.receivedByte b) s = .next { s with link := { s.link with byteEnd := none } }) ∧
    (s.link.rx = .hunt →
      exec (.receivedByte 0xC3#8) s =
        .next { s with link := { s.link with rx := .inFrame [], byteEnd := some (s.clock.now + 2000000) } }) ∧
    (∀ b bs, s.link.rx = .inFrame bs → bs.length < 5 → (bs = [] → b = 1#8) →
      exec (.receivedByte b) s =
        .next { s with link := { s.link with rx := .inFrame (bs ++ [b]), byteEnd := some (s.clock.now + 2000000) } }) ∧
    (∀ b, s.link.rx = .inFrame [] → b ≠ 1#8 → b ≠ 0xC3#8 →
      exec (.frameRefused b) s = .next (refused s .kind none)) ∧
    (s.link.rx = .inFrame [] →
      exec (.frameRefused 0xC3#8) s =
        .next { refused s .kind none with
          link := { (refused s .kind none).link with rx := .inFrame [], byteEnd := some (s.clock.now + 2000000) } }) ∧
    (∀ b bs, s.link.rx = .inFrame bs → bs.length = 5 → 512 < argU (bs ++ [b]) 4 2 → 0xC3#8 ∉ bs ++ [b] →
      exec (.frameRefused b) s = .next (refused s .length (some (bs.getD 1 0)))) ∧
    (∀ b bs, s.link.rx = .inFrame bs → 7 ≤ bs.length → argU bs 4 2 ≤ 512 → bs.length = 7 + argU bs 4 2 →
      argU (bs ++ [b]) (bs.length - 1) 2 ≠ (crc16 (bs.take (bs.length - 1))).toNat → 0xC3#8 ∉ bs ++ [b] →
      exec (.frameRefused b) s = .next (refused s .crc (some (bs.getD 1 0)))) ∧
    (∀ bs e, s.link.rx = .inFrame bs → s.link.byteEnd = some e → 0xC3#8 ∉ bs →
      exec .interByteTimeout s =
        .next (refused { s with clock := { s.clock with now := max s.clock.now e } } .timeout bs[1]?)) ∧
    (s.link.rx ≠ .brk →
      exec .breakDetected s = .next { s with
        link := { s.link with
          rx := .brk, byteEnd := none, rxq := [], notices := [], lost := 0, latched := s.link.latched.set 5 true
          errors := s.link.errors.set 5 (min 65535 (s.link.errors[(5 : Fin 6)] + 1)) } }) ∧
    (s.link.rx = .brk →
      exec .breakEnd s =
        .next (({ s with link := { s.link with rx := .hunt } } : State).offer (.linkError .brk none)) ∧
      ∀ b, exec (.receivedByte b) s = .next s)

/-- R217: SET_NOTICES refuses a set bit among 12 to 15 and keeps the always-on kinds. R218: CLEAR_LINK_ERRORS. R216: a key
event moves to the notice queue under the four conditions together, and goes out at once when the transmitter is idle. -/
def Obligations.LinkRequestsAndKeyMovesAct : Prop :=
  ∀ (tag : Byte) (p : List Byte) (s : State),
    (p.length = 2 → s.takes 0x62 tag p = true →
      (4096 ≤ argU p 0 2 → exec (.setNotices tag p) s = .next (s.replied 0x62 tag .badValue [])) ∧
      (argU p 0 2 < 4096 →
        let m := BitVec.ofNat 16 (argU p 0 2) ||| 0x0E00#16
        let r := s.replied 0x62 tag .ok (leBytes 2 m.toNat)
        exec (.setNotices tag p) s = .next { r with link := { r.link with mask := m } })) ∧
    (s.takes 0x61 tag [] = true →
      let r := s.replied 0x61 tag .ok []
      exec (.clearLinkErrors tag []) s =
        .next { r with
          link := { r.link with latched := Vector.replicate 6 false, errors := Vector.replicate 6 0 } }) ∧
    (let moves := s.link.up = true ∧ s.link.mask.getLsbD 0 = true ∧ s.link.notices.length < 32 ∧ s.link.lost = 0
     (¬moves ∨ s.panel.queue = [] → exec .keyNoticeMove s = .next s) ∧
     (∀ ev rest, moves → s.panel.queue = ev :: rest →
       (s.link.tx.isSome = true →
         exec .keyNoticeMove s = .next { s with
           panel := { s.panel with queue := rest }
           link := { s.link with notices := s.link.notices ++ [.key ev] } }) ∧
       (s.link.tx = none → s.link.replies = [] → s.link.notices = [] →
         exec .keyNoticeMove s = .next { s with
           panel := { s.panel with queue := rest }
           link := { s.link with
             tx := some ⟨(Notice.key ev).frame, s.clock.now + frameTime s.link.rate 7⟩ } })))

/-! ### Status requests -/

/-- R56, R73, R104, R166, R180, R205, R218 and R52: the status requests of the blocks, item by item as Tables 57 and 58
lay them out; they change no state. A remaining time is rounded up (log entry 28).

R118, R143 and R189: LIST_RECORDS, GET_RESULTS and LIST_SLOTS, item by item as Table 57 lays them out; they change no
state. LIST_SLOTS is refused while the loaded flag is clear or the store is LOADING. -/
def Obligations.StatusRequestsReadTheState : Prop :=
  (∀ (tag : Byte) (s : State),
     let left (u : Nat) (t : Option Nat) : Nat := match t with
       | none => 0
       | some e => (e - s.clock.now + (u - 1)) / u
     (s.takes 0x60 tag [] = true → Reads s (.getStatus tag []) 0x60 tag 26
       [(0, 1, s.power.st.code), (1, 1, s.acq.st.code), (2, 1, bit (decide (s.store.st ≠ .idle))),
         (3, 1, s.meas.devVerdict.code),
         (4, 1, ((List.finRange 6).map (fun k => if s.link.latched[k] = true then 2 ^ k.val else 0)).sum), (5, 2, s.link.errors[(0 : Fin 6)]), (7, 2, s.link.errors[(1 : Fin 6)]),
         (9, 2, s.link.errors[(2 : Fin 6)]), (11, 2, s.link.errors[(3 : Fin 6)]), (13, 2, s.link.errors[(4 : Fin 6)]),
         (15, 2, s.link.errors[(5 : Fin 6)]), (17, 2, s.link.lost), (19, 2, s.link.mask.toNat),
         (21, 1, s.link.rxq.tail.length), (22, 1, s.link.replies.length), (23, 1, s.link.reservations.length),
         (24, 1, s.link.notices.length),
         (25, 1, if ∃ k : Fin 6, s.link.latched[k] = true then 1
           else if s.fe.cond = .fault then 2
           else if s.meas.devVerdict = .fail then 3
           else if s.panel.queue ≠ [] then 4 else 0)]) ∧
     (s.takes 0x59 tag [] = true → Reads s (.getPower tag []) 0x59 tag 10
       [(0, 1, s.power.st.code), (1, 1, s.power.cause.code),
         (2, 1, match s.power.st, s.power.upStep, s.power.downStep with
           | .poweringUp, .feWait, _ => 1
           | .poweringUp, .load, _ => 2
           | .shuttingDown, _, .lastWrite => 3
           | .shuttingDown, _, .grace => 4
           | _, _, _ => 0), (3, 1, bit s.panel.keys[(0 : Fin 64)].down),
         (4, 2, left 1000000 s.power.holdEnd), (6, 2, left 1000000 s.power.graceEnd), (8, 1, bit s.pins.straps.autoOn),
         (9, 1, bit s.pins.straps.factory)]) ∧
     (s.takes 0x20 tag [] = true → Reads s (.getFeStatus tag []) 0x20 tag 38
       ([(0, 1, s.fe.cond.code), (1, 1, bit s.pins.feReady), (2, 1, bit s.feReadyNow), (3, 1, bit s.fe.port.isSome),
         (4, 4, left 1000 s.fe.settleEnd), (8, 2, left 1000000 s.fe.waitEnd)] ++
         (List.finRange 4).flatMap (fun c =>
           [(10 + 7 * c.val, 1, bit s.fe.latched[c].div100), (11 + 7 * c.val, 1, s.fe.latched[c].gain.toNat),
             (12 + 7 * c.val, 1, s.fe.latched[c].coupling.toNat), (13 + 7 * c.val, 1, bit s.fe.latched[c].bwl),
             (14 + 7 * c.val, 1, bit s.fe.latched[c].power),
             (15 + 7 * c.val, 1, bit (decide (s.fe.latched[c] ≠ s.requiredWords[c]))),
             (16 + 7 * c.val, 1, bit (s.fe.calAt c (s.fld (idVdiv c))).cal)]))) ∧
     (s.takes 0x2C tag [] = true → Reads s (.getAcqStatus tag []) 0x2C tag 46
       [(0, 1, s.acq.st.code), (1, 1, s.acq.mode.code), (2, 1, bit s.acq.fault), (3, 1, bit s.acq.pendingForce),
         (4, 1, bit s.acq.rateHeld.isSome), (5, 4, s.acq.rateHeld.getD 0), (9, 8, s.clock.now - s.clock.epoch),
         (17, 1, bit s.acq.cap.isSome), (18, 2, (s.acq.cap.map (·.gen)).getD 0), (20, 1, bit s.acq.lastTrig.isSome),
         (21, 8, (s.acq.lastTrig.map (·.time)).getD 0), (29, 1, (s.acq.lastTrig.map (·.cause.code)).getD 0),
         (30, 4, s.acq.discSetup), (34, 4, s.acq.discStop), (38, 4, s.acq.discFail), (42, 4, s.acq.discFault)]) ∧
     (s.takes 0x43 tag [] = true → Reads s (.getDisplayStatus tag []) 0x43 tag 21
       [(0, 4, s.disp.sel.getD 0), (4, 1, bit s.disp.raster.isSome), (5, 4, (s.disp.raster.map (·.record)).getD 0),
         (9, 1, (s.disp.raster.map (·.kind.code)).getD 0), (10, 4, s.disp.nd), (14, 4, s.disp.passed),
         (18, 1, bit s.disp.redraw), (19, 1, s.disp.decays), (20, 1, bit s.disp.scanning)]) ∧
     (s.takes 0x4A tag [] = true → Reads s (.getOverlayStatus tag []) 0x4A tag 11
       [(0, 1, s.ov.st.code), (1, 1, if s.ov.st = .idle then 0 else (s.ov.queue.head?.map (·.code)).getD 0),
         (2, 1, s.ov.queue.length), (3, 1, 32 - s.ov.queue.length), (4, 1, bit s.ov.frontB), (5, 2, s.ov.presents),
         (7, 4, s.ov.dropped)]) ∧
     (s.takes 0x18 tag [] = true → Reads s (.getPanelStatus tag []) 0x18 tag 34
       ([(0, 1, s.panel.queue.length), (33, 1, (s.panel.tone.map (·.rank)).getD 0)] ++
         (List.finRange 12).map (fun e => (9 + 2 * e.val, 2, s.panel.encs[e].illegal)) ++
         (List.finRange 8).map (fun r => (1 + r.val, 1, ((List.range 8).map (fun k =>
           if h : 8 * r.val + k < 64 then
             if 8 * r.val + k ≠ 0 ∧ s.panel.keys[8 * r.val + k].down = true then 2 ^ k else 0
           else 0)).sum)))) ∧
     (s.takes 0x16 tag [] = true → Reads s (.getLeds tag []) 0x16 tag 72
       ((List.finRange 12).flatMap (fun i =>
         [(3 * i.val, 1, (s.ledAuto i).code), (3 * i.val + 1, 1, s.panel.overrides[i].code),
           (3 * i.val + 2, 1, bit (decide (s.ledSource i ≠ .dark))), (36 + 3 * i.val, 1, (s.ledHost i).code),
           (37 + 3 * i.val, 1, bit s.panel.hostLeds[i]), (38 + 3 * i.val, 1, 0)])))) ∧
  (∀ (tag : Byte) (p : List Byte) (s : State),
     (p.length = 2 → s.takes 0x33 tag p = true →
       let r := s.ring
       let page := (r.order.drop (argU p 0 2)).take 32
       Reads s (.listRecords tag p) 0x33 tag (26 + 14 * page.length)
         ([(0, 1, r.cap), (1, 4, r.leff), (5, 1, r.w), (6, 1, bit r.geomPending), (7, 1, r.order.length),
           (8, 1, bit r.filling), (9, 4, r.counter), (13, 4, r.lock1.getD 0), (17, 4, r.lock2.getD 0),
           (21, 4, r.pin.getD 0), (25, 1, page.length)] ++
           (List.range page.length).flatMap (fun i => match page[i]? with
             | none => []
             | some x => [(26 + 14 * i, 4, x.number), (30 + 14 * i, 8, x.trigTime), (38 + 14 * i, 1, x.cause.code),
               (39 + 14 * i, 1, bit (decide (r.lock1 = some x.number ∨ r.lock2 = some x.number)))]))) ∧
     (s.takes 0x38 tag [] = true →
       let m := s.meas
       Reads s (.getResults tag []) 0x38 tag 340
         ((List.finRange 6).flatMap (fun j =>
           let o := 52 * j.val
           [(o, 1, (s.fld (100 + 10 * j.val)).toNat), (o + 1, 8, (m.results[j].value % 2 ^ 64).toNat),
             (o + 9, 1, m.results[j].status.code), (o + 10, 1, bit m.results[j].clipped),
             (o + 11, 4, m.results[j].record.getD 0), (o + 15, 1, m.results[j].origin.code),
             (o + 16, 4, m.stats[j].count), (o + 20, 8, (((m.stats[j].range.map Prod.fst).getD 0) % 2 ^ 64).toNat),
             (o + 28, 8, (((m.stats[j].range.map Prod.snd).getD 0) % 2 ^ 64).toNat), (o + 36, 2, m.failCount[j]),
             (o + 38, 1, bit m.hold[j].isSome), (o + 39, 8, (((m.hold[j].map FailHold.value).getD 0) % 2 ^ 64).toNat),
             (o + 47, 1, bit ((m.hold[j].map FailHold.high).getD false)), (o + 48, 4, (m.hold[j].map FailHold.record).getD 0)]) ++
           [(312, 1, m.devVerdict.code), (313, 1, m.recVerdict.code), (314, 4, m.recVerdictOf),
             (318, 1, bit m.eval.isSome), (319, 4, (m.eval.map Eval.record).getD 0),
             (323, 1, (m.eval.map (fun e => e.kind.code)).getD 0), (324, 4, m.ns), (328, 4, m.skipped),
             (332, 1, bit m.reReq), (333, 1, bit (decide (s.fld 161 = 1 ∧ (m.ns < s.ring.counter ∨ m.failFlag = true)))),
             (334, 1, bit m.failFlag), (335, 1, m.line.code),
             (336, 2, match m.lineEnd with
               | none => 0
               | some e => (e - s.clock.now + 999999) / 1000000), (338, 1, m.override.code),
             (339, 1, match m.override with
               | .auto => bit (decide (m.line = .asserted ∨ m.line = .releasePending))
               | .forceTrue => 1
               | .forceFalse => 0)])) ∧
     (s.takes 0x53 tag [] = true →
       (s.store.loaded = false ∨ s.store.st = .loading →
         exec (.listSlots tag []) s = .next (s.replied 0x53 tag .notNow [])) ∧
       (s.store.loaded = true → s.store.st ≠ .loading → Reads s (.listSlots tag []) 0x53 tag 395
         ([(0, 1, if s.store.st = .idle then 0 else 2),
           (1, 1, match s.store.st with
             | .writing (.save ..) _ => 1
             | .writing (.erase ..) _ => 2
             | .writing (.calWrite ..) _ => 3
             | .writing (.last ..) _ => 4
             | _ => 0),
           (2, 1, match s.store.st with
             | .writing (.save i ..) _ => i.val
             | .writing (.erase i) _ => i.val
             | .writing (.calWrite e ..) _ => e.val
             | _ => 0), (3, 1, bit s.store.lastPending)] ++
           (List.finRange 17).flatMap (fun i =>
             [(4 + 23 * i.val, 1, i.val), (5 + 23 * i.val, 1, s.store.dir[i].cls.code),
               (6 + 23 * i.val, 1, s.store.dir[i].name.length),
               (7 + 23 * i.val, 16, readLe ((s.store.dir[i].name ++ List.replicate 16 0).take 16)), (23 + 23 * i.val, 4, s.store.dir[i].count)])))))

/-- R164: the cursor readout in each mode, from the live setup as it stands: TIME in ps with the reciprocal in mHz, absent for
equal cursors, VOLT in µV of the CURSRC channel, OFF without values. Every V_div of Table 9 is a multiple of 50, so the
voltage is exact. -/
def Obligations.CursorReadoutIsComputed : Prop :=
  ∀ (tag : Byte) (s : State), s.takes 0x41 tag [] = true →
    let reads (mode src : Nat) (a b d : Int) (present : Bool) (r : Int) : Prop :=
      exec (.cursorRead tag []) s = .next (s.replied 0x41 tag .ok
        ([byte mode, byte src] ++ leInt 8 a ++ leInt 8 b ++ leInt 8 d ++ [if present then 1 else 0] ++ leInt 8 r))
    let t (col : Int) : Int := (col - s.fld 51 / 2) * tdivOf (s.fld 50) * 20
    (s.fld 73 = 0 → reads 0 0 0 0 0 false 0) ∧
    (s.fld 73 = 1 →
      (s.fld 75 = s.fld 76 → reads 1 0 (t (s.fld 75)) (t (s.fld 76)) 0 false 0) ∧
      (s.fld 75 ≠ s.fld 76 → 0 < tdivOf (s.fld 50) →
        reads 1 0 (t (s.fld 75)) (t (s.fld 76)) ((s.fld 76 - s.fld 75) * tdivOf (s.fld 50) * 20) true
          (roundDiv 1000000000000000 ((s.fld 76 - s.fld 75) * tdivOf (s.fld 50) * 20)))) ∧
    (∀ c : Fin 4, s.fld 73 = 2 → s.fld 74 = (c.val : Int) →
      0 ≤ s.fld (10 * (c.val + 1) + 1) → s.fld (10 * (c.val + 1) + 1) ≤ 12 →
      ∃ a b : Int,
        50 * a = (200 - s.fld 77 - s.fld (10 * (c.val + 1) + 2)) * vdivOf (s.fld (10 * (c.val + 1) + 1)) ∧
        50 * b = (200 - s.fld 78 - s.fld (10 * (c.val + 1) + 2)) * vdivOf (s.fld (10 * (c.val + 1) + 1)) ∧
        reads 2 c.val a b (a - b) false 0)

/-- R193: CAL_READ in each case; the values of an entry that is not WRITTEN are g = 16,384 and o = 0. That NOT_NOW is
answered before the arguments are checked is log entry 20. -/
def Obligations.CalReadAnswersByEntryState : Prop :=
  ∀ (tag : Byte) (p : List Byte) (s : State), p.length = 2 → s.takes 0x55 tag p = true →
    let ch := argU p 0 1
    let k := argU p 1 1
    let reads (st : Nat) (g o : Int) : Prop :=
      exec (.calRead tag p) s =
        .next (s.replied 0x55 tag .ok ([byte ch, byte k, byte st] ++ leInt 2 g ++ leInt 1 o))
    (s.store.loaded = false ∨ s.store.st = .loading →
      exec (.calRead tag p) s = .next (s.replied 0x55 tag .notNow [])) ∧
    (s.store.loaded = true → s.store.st ≠ .loading →
      (¬(1 ≤ ch ∧ ch ≤ 4 ∧ k ≤ 12) → exec (.calRead tag p) s = .next (s.replied 0x55 tag .badValue [])) ∧
      (∀ e : Fin 52, 1 ≤ ch → ch ≤ 4 → k ≤ 12 → e.val = 13 * (ch - 1) + k →
        (s.store.calRam[e] = .unwritten → reads 0 16384 0) ∧
        (∀ g o, s.store.calRam[e] = .written g o → reads 1 g o) ∧
        (s.store.calRam[e] = .corrupt → reads 2 16384 0)))

/-- R142, R161 to R163, R165 and R196: the outputs that follow the state. The limit line's pin level follows the override, the
line and LOUT_POL, and is the false level in STANDBY. Host power and the backlight are off in STANDBY alone. A panel pixel
shows, in this order, the overlay's colour, a cursor line, the lowest-numbered channel that shows there, the graticule, black;
outside the waveform area the overlay or black. -/
def Obligations.OutputsFollowTheState : Prop :=
  (∀ s : State,
     let high := s.fld 165 = 0
     let level := s.meas.override = .forceTrue ∨
       (s.meas.override = .auto ∧ (s.meas.line = .asserted ∨ s.meas.line = .releasePending))
     (s.power.st = .standby → (s.linePin = true ↔ ¬high) ∧ s.hostPower = false ∧ s.backlightDuty = 0) ∧
     (s.power.st ≠ .standby →
       (s.linePin = true ↔ (level ↔ high)) ∧ s.hostPower = true ∧ s.backlightDuty = s.fld idBacklight)) ∧
  (∀ (s : State) (landed x y : Nat), s.disp.scanning = true → x < 500 → y < 400 →
     let ix := (if s.ov.scanB then s.ov.bufB else s.ov.bufA).read (800 * (y + 40) + (x + 10))
     let pixel := s.panelPixel landed (x + 10) (y + 40)
     let cursor := (s.fld 73 = 1 ∧ ((x : Int) = s.fld 75 ∨ (x : Int) = s.fld 76)) ∨
       (s.fld 73 = 2 ∧ ((y : Int) = s.fld 77 ∨ (y : Int) = s.fld 78))
     let shade (c : Fin 4) : Nat :=
       ((s.disp.landed landed)[c].read (500 * y + x)).toNat * (20 + 4 * (s.fld idIntensity).toNat) / 420
     let shows (c : Fin 4) : Prop := s.fld (10 * (c.val + 1)) = 1 ∧ 0 < shade c
     let part (n : Nat) (c : Fin 4) : Byte := byte (n * shade c / 255)
     let g := s.fld idGraticule
     let border := x = 0 ∨ x = 499 ∨ y = 0 ∨ y = 399
     let grid := x % 50 = 0 ∨ y % 50 = 0
     let ticks := (199 ≤ y ∧ y ≤ 201 ∧ x % 10 = 0) ∨ (249 ≤ x ∧ x ≤ 251 ∧ y % 10 = 0)
     let graticule := border ∨ (g ≠ 2 ∧ grid) ∨ (g ≠ 2 ∧ g ≠ 1 ∧ ticks)
     (ix ≠ 0 → pixel = s.ov.palette[ix.toNat]) ∧
     (ix = 0 → cursor → pixel = ⟨255, 255, 255⟩) ∧
     (ix = 0 → ¬cursor → ∀ c, shows c → (∀ c' : Fin 4, c' < c → ¬shows c') →
       pixel = (if c = 0 then ⟨part 255 c, part 176 c, part 0 c⟩
         else if c = 1 then ⟨part 96 c, part 192 c, part 255 c⟩
         else if c = 2 then ⟨part 255 c, part 96 c, part 144 c⟩
         else ⟨part 160 c, part 255 c, part 64 c⟩)) ∧
     (ix = 0 → ¬cursor → (∀ c, ¬shows c) → graticule → pixel = ⟨72, 72, 72⟩) ∧
     (ix = 0 → ¬cursor → (∀ c, ¬shows c) → ¬graticule → pixel = ⟨0, 0, 0⟩)) ∧
  (∀ (s : State) (landed col row : Nat),
     let ix := (if s.ov.scanB then s.ov.bufB else s.ov.bufA).read (800 * row + col)
     (s.disp.scanning = false → s.panelPixel landed col row = ⟨0, 0, 0⟩) ∧
     (s.disp.scanning = true → ¬(10 ≤ col ∧ col < 510 ∧ 40 ≤ row ∧ row < 440) →
       s.panelPixel landed col row = if ix = 0 then ⟨0, 0, 0⟩ else s.ov.palette[ix.toNat]))

/-! ### Invariants of every step -/

/-- R5, R28, R29, R34, R67, R77, R104, R107, R115, R123, R145, R167, R181, R183, R191, R196 and R207: what a supply reset
with AUTO_ON low leaves, where the data sheet gives the value. The queue of commands is the model's and is empty in the
model's reset state (log entry 1); a SUPPLY_RESET keeps the commands that wait (log entry 18).

Every invariant below holds right after a supply reset; that the ring's notes of a waiting claim, of which the invariant of the
ring speaks, are clear there, and that the link's rate is one of Table 47, is log entry 17. -/
def Obligations.SupplyResetLeavesTheStatedValues : Prop :=
  (let s := State.reset
   s.power.st = .standby ∧ s.power.forcedOff = false ∧ s.setup.live = defaultVals ∧ s.setup.gen = 0 ∧ s.setup.undo = [] ∧
     (∀ p : Fin 64, s.panel.keys[p] = ⟨false, 0, false, none⟩) ∧ s.panel.queue = [] ∧ s.panel.tone = none ∧
     (∀ e : Fin 12, s.panel.encs[e].sub = 0 ∧ s.panel.encs[e].illegal = 0 ∧ s.panel.encs[e].window = none) ∧
     s.fe.cond = .off ∧ s.fe.port = none ∧ s.fe.settleEnd = none ∧ s.fe.waitEnd = none ∧
     (∀ c : Fin 4, s.fe.latched[c].power = false) ∧ (∀ e : Fin 52, s.fe.cal[e] = ⟨16384, 0, false⟩) ∧
     s.acq.st = .stopped ∧ s.acq.mode = .run ∧ s.acq.cap = none ∧ s.acq.pendingForce = false ∧ s.acq.lastTrig = none ∧
     s.acq.fault = false ∧ s.acq.cmp.running = false ∧ s.acq.rateHeld = none ∧ s.acq.discSetup = 0 ∧ s.acq.discStop = 0 ∧
     s.acq.discFail = 0 ∧ s.acq.discFault = 0 ∧
     s.ring.leff = 16384 ∧ s.ring.w = 1 ∧ s.ring.cap = 16 ∧ s.ring.slots = List.replicate 16 .empty ∧ s.ring.order = [] ∧
     s.ring.counter = 0 ∧ s.ring.lock1 = none ∧ s.ring.lock2 = none ∧ s.ring.pin = none ∧ s.ring.geomPending = false ∧
     (∀ j : Fin 6, s.meas.results[j].status = .noRecord ∧ s.meas.stats[j] = ⟨0, none⟩ ∧ s.meas.failCount[j] = 0 ∧
       s.meas.hold[j] = none) ∧
     s.meas.eval = none ∧ s.meas.ns = 0 ∧ s.meas.skipped = 0 ∧ s.meas.devVerdict = .none ∧ s.meas.line = .deasserted ∧
     s.meas.override = .auto ∧ s.meas.failFlag = false ∧
     (∀ c : Fin 4, s.disp.planes[c] = []) ∧ s.disp.raster = none ∧ s.disp.nd = 0 ∧ s.disp.passed = 0 ∧ s.disp.sel = none ∧
     s.disp.redraw = false ∧ s.disp.decays = 0 ∧ s.disp.scanning = false ∧
     s.ov.bufA = [] ∧ s.ov.bufB = [] ∧ s.ov.frontB = false ∧ s.ov.queue = [] ∧ s.ov.st = .idle ∧ s.ov.presents = 0 ∧
     s.ov.dropped = 0 ∧ s.ov.palette[(11 : Fin 256)] = ⟨255, 176, 0⟩ ∧
     s.store.loaded = false ∧ s.store.st = .idle ∧ s.store.lastPending = false ∧ (∀ e : Fin 52, s.store.calRam[e] = .unwritten) ∧
     s.link.up = false ∧ s.link.rxq = [] ∧ s.link.replies = [] ∧ s.link.notices = [] ∧ s.link.reservations = [] ∧
     s.link.tx = none ∧ s.link.mask = 0x0E3F ∧ s.link.lost = 0 ∧ s.pending = []) ∧
  (SetupInv State.reset ∧ BufferInv State.reset ∧ LinkInv State.reset ∧ RingInv State.reset ∧ TimerInv State.reset ∧
     RunInv State.reset ∧ FrontInv State.reset ∧ GateInv State.reset)

/-- R10, R13, R16, R19 and R20: every step keeps the live setup and all that an undo can restore inside their fields' ranges
and sets, the undo stack within 16 entries and the generation within 16 bits. -/
def Obligations.EveryStepKeepsTheSetupAdmitted : Prop := ∀ s t : State, SetupInv s → step s = .next t → SetupInv t

/-- R147, R153, R154, R168 and R174 to R177: every step keeps the planes and the overlay buffers in canonical form and writes
no pixel outside the waveform area or the panel. -/
def Obligations.EveryStepKeepsTheBuffersInTheirAreas : Prop := ∀ s t : State, BufferInv s → step s = .next t → BufferInv t

/-- R207, R211 to R217: every step keeps the bounds of the link's queues and counters, the always-on kinds, a transmitter that
never idles while something waits, and a DOWN link that holds nothing. -/
def Obligations.EveryStepKeepsTheLinkQueues : Prop := ∀ s t : State, LinkInv s → step s = .next t → LinkInv t

/-- R106 to R114, R121 and R122: every step keeps the numbers rising along the ring order, the locked and the pinned records
in the ring, a HELD slot for each record, a FILLING slot exactly for the capture in flight and a slot on offer, at most one slot
FILLING (R106), and a waiting claim with the state that waits for it. The list of offers is the model's (log entry 40); that a supply reset leaves the
notes of a waiting claim clear is log entry 17. -/
def Obligations.EveryStepKeepsTheRing : Prop := ∀ s t : State, RingInv s → step s = .next t → RingInv t

/-- R85, R87, R88, R93 and R139: every step keeps the holdoff timer to PRE_FILL and the auto timer to ARMED, and leaves no
pending force and no outstanding fail stop to a stopped acquisition.

R83, R92, R101 and R201: every step keeps the comparator running in ON and SHUTTING_DOWN, acquisition running in ON alone,
and at most one flag of an EDGE comparator set. -/
def Obligations.EveryStepKeepsTheTimersInTheirStates : Prop :=
  (∀ s t : State, TimerInv s → step s = .next t → TimerInv t) ∧
  (∀ s t : State, RunInv s → step s = .next t → RunInv t)

/-- R62 to R67: every step leaves the presented readiness equal to the readiness of the front end as it stands, and keeps the
ready wait, the port and the settle timer to their conditions. -/
def Obligations.EveryStepPresentsTheReadiness : Prop := ∀ s t : State, FrontInv s → step s = .next t → FrontInv t

/-- R138: from states whose ring is sound, every step leaves the presented gate equal to the gate as it stands, so that no
opening goes unannounced. -/
def Obligations.EveryStepPresentsTheGate : Prop :=
  ∀ s t : State, RingInv s → GateInv s → step s = .next t → GateInv t
end

