-- ==== Sys2Proof/Laws/Grant.lean ====
section
/-! SUPPORT. What the test for ARMED and a granted slot do to a running engine, said once each. -/

namespace Sys2Proof.Machine

/-- In a running acquisition the setting of another running state changes the state alone. -/
theorem State.setAcqSt_running (s : State) (st : AcqSt) (h : s.acq.st ≠ .stopped) (h' : st ≠ .stopped) :
    s.setAcqSt st = { s with acq := { s.acq with st := st } } := by
  unfold State.setAcqSt
  simp only [State.stopped, h, h', decide_false, Bool.false_eq_true, if_false]
  rfl

/-- R85 to R88: the whole effect of the test for ARMED on a capture in PRE_FILL whose interval is not complete. -/
theorem State.testArmed_eq (s : State) (c : Capture) (hst : s.acq.st = .preFill) (hc : s.acq.cap = some c)
    (hf : c.ivN < 2 ^ c.geom.dExp) : s.testArmed = { s with acq := s.afterArmTest c } := by
  have hfull : c.full = false := by simp [Capture.full, hf]
  unfold State.testArmed State.afterArmTest
  rw [hst, hc]
  dsimp only
  by_cases hp : c.geom.npre ≤ c.pre.length ∧ s.holdoffFor c = none
  · rw [if_pos hp, if_neg (fun k => k.elim (fun a => absurd hp.1 (Nat.not_le.2 a)) (fun b => b hp.2))]
    unfold State.enterArmed
    rw [State.setAcqSt_running _ _ (by simp [State.modAcq, hst]) (by decide)]
    cases hq : s.acq.pendingForce
    · simp only [Bool.false_eq_true, if_false, if_true, State.modAcq, State.autoTimer, autoWait]
      rw [← hc, ← hq]
    · simp only [if_true, Bool.true_eq_false, if_false]
      unfold State.acceptTrigger
      rw [State.setAcqSt_running _ _ (by simp [State.modAcq]) (by decide)]
      simp only [hfull, Bool.false_eq_true, if_false, if_true, State.modAcq]
      rfl
  · rw [if_neg hp, if_pos (by
      by_cases a : c.geom.npre ≤ c.pre.length
      · exact .inr (fun b => hp ⟨a, b⟩)
      · exact .inl (Nat.not_le.1 a))]
    rw [← hc, ← hst]
    rfl

/-- R78 and R79: a slot granted to a running engine: the context is taken, and the capture is put to the test for ARMED. -/
theorem State.granted_running (s : State) (i : Nat) (h : s.acq.st ≠ .stopped) :
    s.granted i = { s with acq := s.afterArmTest (s.newCapture i) } := by
  unfold State.granted
  rw [State.setAcqSt_running _ _ (by exact h) (by decide)]
  rw [State.testArmed_eq _ (s.newCapture i) rfl rfl (by simp [State.newCapture])]
  unfold State.afterArmTest
  simp only [State.setCap, State.modAcq]
  rfl

end Sys2Proof.Machine
end

