-- ==== Sys2Proof/Laws/State.lean ====
section
/-! SUPPORT. One lemma for each field under each update of a block: later proofs never unfold a record update. -/

namespace Sys2Proof.Machine

variable (s : State)

@[simp] theorem State.modClock_pending (f : Clock → Clock) : (s.modClock f).pending = s.pending := rfl
@[simp] theorem State.modClock_clock (f : Clock → Clock) : (s.modClock f).clock = f s.clock := rfl
@[simp] theorem State.modClock_pins (f : Clock → Clock) : (s.modClock f).pins = s.pins := rfl
@[simp] theorem State.modClock_setup (f : Clock → Clock) : (s.modClock f).setup = s.setup := rfl
@[simp] theorem State.modClock_panel (f : Clock → Clock) : (s.modClock f).panel = s.panel := rfl
@[simp] theorem State.modClock_fe (f : Clock → Clock) : (s.modClock f).fe = s.fe := rfl
@[simp] theorem State.modClock_acq (f : Clock → Clock) : (s.modClock f).acq = s.acq := rfl
@[simp] theorem State.modClock_ring (f : Clock → Clock) : (s.modClock f).ring = s.ring := rfl
@[simp] theorem State.modClock_meas (f : Clock → Clock) : (s.modClock f).meas = s.meas := rfl
@[simp] theorem State.modClock_disp (f : Clock → Clock) : (s.modClock f).disp = s.disp := rfl
@[simp] theorem State.modClock_ov (f : Clock → Clock) : (s.modClock f).ov = s.ov := rfl
@[simp] theorem State.modClock_store (f : Clock → Clock) : (s.modClock f).store = s.store := rfl
@[simp] theorem State.modClock_power (f : Clock → Clock) : (s.modClock f).power = s.power := rfl
@[simp] theorem State.modClock_link (f : Clock → Clock) : (s.modClock f).link = s.link := rfl
@[simp] theorem State.modClock_boxes (f : Clock → Clock) : (s.modClock f).boxes = s.boxes := rfl
@[simp] theorem State.modClock_freeCtr (f : Clock → Clock) : (s.modClock f).freeCtr = s.freeCtr := rfl

@[simp] theorem State.modPins_pending (f : Pins → Pins) : (s.modPins f).pending = s.pending := rfl
@[simp] theorem State.modPins_clock (f : Pins → Pins) : (s.modPins f).clock = s.clock := rfl
@[simp] theorem State.modPins_pins (f : Pins → Pins) : (s.modPins f).pins = f s.pins := rfl
@[simp] theorem State.modPins_setup (f : Pins → Pins) : (s.modPins f).setup = s.setup := rfl
@[simp] theorem State.modPins_panel (f : Pins → Pins) : (s.modPins f).panel = s.panel := rfl
@[simp] theorem State.modPins_fe (f : Pins → Pins) : (s.modPins f).fe = s.fe := rfl
@[simp] theorem State.modPins_acq (f : Pins → Pins) : (s.modPins f).acq = s.acq := rfl
@[simp] theorem State.modPins_ring (f : Pins → Pins) : (s.modPins f).ring = s.ring := rfl
@[simp] theorem State.modPins_meas (f : Pins → Pins) : (s.modPins f).meas = s.meas := rfl
@[simp] theorem State.modPins_disp (f : Pins → Pins) : (s.modPins f).disp = s.disp := rfl
@[simp] theorem State.modPins_ov (f : Pins → Pins) : (s.modPins f).ov = s.ov := rfl
@[simp] theorem State.modPins_store (f : Pins → Pins) : (s.modPins f).store = s.store := rfl
@[simp] theorem State.modPins_power (f : Pins → Pins) : (s.modPins f).power = s.power := rfl
@[simp] theorem State.modPins_link (f : Pins → Pins) : (s.modPins f).link = s.link := rfl
@[simp] theorem State.modPins_boxes (f : Pins → Pins) : (s.modPins f).boxes = s.boxes := rfl
@[simp] theorem State.modPins_freeCtr (f : Pins → Pins) : (s.modPins f).freeCtr = s.freeCtr := rfl

@[simp] theorem State.modSetup_pending (f : SetupCtl → SetupCtl) : (s.modSetup f).pending = s.pending := rfl
@[simp] theorem State.modSetup_clock (f : SetupCtl → SetupCtl) : (s.modSetup f).clock = s.clock := rfl
@[simp] theorem State.modSetup_pins (f : SetupCtl → SetupCtl) : (s.modSetup f).pins = s.pins := rfl
@[simp] theorem State.modSetup_setup (f : SetupCtl → SetupCtl) : (s.modSetup f).setup = f s.setup := rfl
@[simp] theorem State.modSetup_panel (f : SetupCtl → SetupCtl) : (s.modSetup f).panel = s.panel := rfl
@[simp] theorem State.modSetup_fe (f : SetupCtl → SetupCtl) : (s.modSetup f).fe = s.fe := rfl
@[simp] theorem State.modSetup_acq (f : SetupCtl → SetupCtl) : (s.modSetup f).acq = s.acq := rfl
@[simp] theorem State.modSetup_ring (f : SetupCtl → SetupCtl) : (s.modSetup f).ring = s.ring := rfl
@[simp] theorem State.modSetup_meas (f : SetupCtl → SetupCtl) : (s.modSetup f).meas = s.meas := rfl
@[simp] theorem State.modSetup_disp (f : SetupCtl → SetupCtl) : (s.modSetup f).disp = s.disp := rfl
@[simp] theorem State.modSetup_ov (f : SetupCtl → SetupCtl) : (s.modSetup f).ov = s.ov := rfl
@[simp] theorem State.modSetup_store (f : SetupCtl → SetupCtl) : (s.modSetup f).store = s.store := rfl
@[simp] theorem State.modSetup_power (f : SetupCtl → SetupCtl) : (s.modSetup f).power = s.power := rfl
@[simp] theorem State.modSetup_link (f : SetupCtl → SetupCtl) : (s.modSetup f).link = s.link := rfl
@[simp] theorem State.modSetup_boxes (f : SetupCtl → SetupCtl) : (s.modSetup f).boxes = s.boxes := rfl
@[simp] theorem State.modSetup_freeCtr (f : SetupCtl → SetupCtl) : (s.modSetup f).freeCtr = s.freeCtr := rfl

@[simp] theorem State.modPanel_pending (f : Panel → Panel) : (s.modPanel f).pending = s.pending := rfl
@[simp] theorem State.modPanel_clock (f : Panel → Panel) : (s.modPanel f).clock = s.clock := rfl
@[simp] theorem State.modPanel_pins (f : Panel → Panel) : (s.modPanel f).pins = s.pins := rfl
@[simp] theorem State.modPanel_setup (f : Panel → Panel) : (s.modPanel f).setup = s.setup := rfl
@[simp] theorem State.modPanel_panel (f : Panel → Panel) : (s.modPanel f).panel = f s.panel := rfl
@[simp] theorem State.modPanel_fe (f : Panel → Panel) : (s.modPanel f).fe = s.fe := rfl
@[simp] theorem State.modPanel_acq (f : Panel → Panel) : (s.modPanel f).acq = s.acq := rfl
@[simp] theorem State.modPanel_ring (f : Panel → Panel) : (s.modPanel f).ring = s.ring := rfl
@[simp] theorem State.modPanel_meas (f : Panel → Panel) : (s.modPanel f).meas = s.meas := rfl
@[simp] theorem State.modPanel_disp (f : Panel → Panel) : (s.modPanel f).disp = s.disp := rfl
@[simp] theorem State.modPanel_ov (f : Panel → Panel) : (s.modPanel f).ov = s.ov := rfl
@[simp] theorem State.modPanel_store (f : Panel → Panel) : (s.modPanel f).store = s.store := rfl
@[simp] theorem State.modPanel_power (f : Panel → Panel) : (s.modPanel f).power = s.power := rfl
@[simp] theorem State.modPanel_link (f : Panel → Panel) : (s.modPanel f).link = s.link := rfl
@[simp] theorem State.modPanel_boxes (f : Panel → Panel) : (s.modPanel f).boxes = s.boxes := rfl
@[simp] theorem State.modPanel_freeCtr (f : Panel → Panel) : (s.modPanel f).freeCtr = s.freeCtr := rfl

@[simp] theorem State.modFe_pending (f : FrontEnd → FrontEnd) : (s.modFe f).pending = s.pending := rfl
@[simp] theorem State.modFe_clock (f : FrontEnd → FrontEnd) : (s.modFe f).clock = s.clock := rfl
@[simp] theorem State.modFe_pins (f : FrontEnd → FrontEnd) : (s.modFe f).pins = s.pins := rfl
@[simp] theorem State.modFe_setup (f : FrontEnd → FrontEnd) : (s.modFe f).setup = s.setup := rfl
@[simp] theorem State.modFe_panel (f : FrontEnd → FrontEnd) : (s.modFe f).panel = s.panel := rfl
@[simp] theorem State.modFe_fe (f : FrontEnd → FrontEnd) : (s.modFe f).fe = f s.fe := rfl
@[simp] theorem State.modFe_acq (f : FrontEnd → FrontEnd) : (s.modFe f).acq = s.acq := rfl
@[simp] theorem State.modFe_ring (f : FrontEnd → FrontEnd) : (s.modFe f).ring = s.ring := rfl
@[simp] theorem State.modFe_meas (f : FrontEnd → FrontEnd) : (s.modFe f).meas = s.meas := rfl
@[simp] theorem State.modFe_disp (f : FrontEnd → FrontEnd) : (s.modFe f).disp = s.disp := rfl
@[simp] theorem State.modFe_ov (f : FrontEnd → FrontEnd) : (s.modFe f).ov = s.ov := rfl
@[simp] theorem State.modFe_store (f : FrontEnd → FrontEnd) : (s.modFe f).store = s.store := rfl
@[simp] theorem State.modFe_power (f : FrontEnd → FrontEnd) : (s.modFe f).power = s.power := rfl
@[simp] theorem State.modFe_link (f : FrontEnd → FrontEnd) : (s.modFe f).link = s.link := rfl
@[simp] theorem State.modFe_boxes (f : FrontEnd → FrontEnd) : (s.modFe f).boxes = s.boxes := rfl
@[simp] theorem State.modFe_freeCtr (f : FrontEnd → FrontEnd) : (s.modFe f).freeCtr = s.freeCtr := rfl

@[simp] theorem State.modAcq_pending (f : Acq → Acq) : (s.modAcq f).pending = s.pending := rfl
@[simp] theorem State.modAcq_clock (f : Acq → Acq) : (s.modAcq f).clock = s.clock := rfl
@[simp] theorem State.modAcq_pins (f : Acq → Acq) : (s.modAcq f).pins = s.pins := rfl
@[simp] theorem State.modAcq_setup (f : Acq → Acq) : (s.modAcq f).setup = s.setup := rfl
@[simp] theorem State.modAcq_panel (f : Acq → Acq) : (s.modAcq f).panel = s.panel := rfl
@[simp] theorem State.modAcq_fe (f : Acq → Acq) : (s.modAcq f).fe = s.fe := rfl
@[simp] theorem State.modAcq_acq (f : Acq → Acq) : (s.modAcq f).acq = f s.acq := rfl
@[simp] theorem State.modAcq_ring (f : Acq → Acq) : (s.modAcq f).ring = s.ring := rfl
@[simp] theorem State.modAcq_meas (f : Acq → Acq) : (s.modAcq f).meas = s.meas := rfl
@[simp] theorem State.modAcq_disp (f : Acq → Acq) : (s.modAcq f).disp = s.disp := rfl
@[simp] theorem State.modAcq_ov (f : Acq → Acq) : (s.modAcq f).ov = s.ov := rfl
@[simp] theorem State.modAcq_store (f : Acq → Acq) : (s.modAcq f).store = s.store := rfl
@[simp] theorem State.modAcq_power (f : Acq → Acq) : (s.modAcq f).power = s.power := rfl
@[simp] theorem State.modAcq_link (f : Acq → Acq) : (s.modAcq f).link = s.link := rfl
@[simp] theorem State.modAcq_boxes (f : Acq → Acq) : (s.modAcq f).boxes = s.boxes := rfl
@[simp] theorem State.modAcq_freeCtr (f : Acq → Acq) : (s.modAcq f).freeCtr = s.freeCtr := rfl

@[simp] theorem State.modRing_pending (f : Ring → Ring) : (s.modRing f).pending = s.pending := rfl
@[simp] theorem State.modRing_clock (f : Ring → Ring) : (s.modRing f).clock = s.clock := rfl
@[simp] theorem State.modRing_pins (f : Ring → Ring) : (s.modRing f).pins = s.pins := rfl
@[simp] theorem State.modRing_setup (f : Ring → Ring) : (s.modRing f).setup = s.setup := rfl
@[simp] theorem State.modRing_panel (f : Ring → Ring) : (s.modRing f).panel = s.panel := rfl
@[simp] theorem State.modRing_fe (f : Ring → Ring) : (s.modRing f).fe = s.fe := rfl
@[simp] theorem State.modRing_acq (f : Ring → Ring) : (s.modRing f).acq = s.acq := rfl
@[simp] theorem State.modRing_ring (f : Ring → Ring) : (s.modRing f).ring = f s.ring := rfl
@[simp] theorem State.modRing_meas (f : Ring → Ring) : (s.modRing f).meas = s.meas := rfl
@[simp] theorem State.modRing_disp (f : Ring → Ring) : (s.modRing f).disp = s.disp := rfl
@[simp] theorem State.modRing_ov (f : Ring → Ring) : (s.modRing f).ov = s.ov := rfl
@[simp] theorem State.modRing_store (f : Ring → Ring) : (s.modRing f).store = s.store := rfl
@[simp] theorem State.modRing_power (f : Ring → Ring) : (s.modRing f).power = s.power := rfl
@[simp] theorem State.modRing_link (f : Ring → Ring) : (s.modRing f).link = s.link := rfl
@[simp] theorem State.modRing_boxes (f : Ring → Ring) : (s.modRing f).boxes = s.boxes := rfl
@[simp] theorem State.modRing_freeCtr (f : Ring → Ring) : (s.modRing f).freeCtr = s.freeCtr := rfl

@[simp] theorem State.modMeas_pending (f : Meas → Meas) : (s.modMeas f).pending = s.pending := rfl
@[simp] theorem State.modMeas_clock (f : Meas → Meas) : (s.modMeas f).clock = s.clock := rfl
@[simp] theorem State.modMeas_pins (f : Meas → Meas) : (s.modMeas f).pins = s.pins := rfl
@[simp] theorem State.modMeas_setup (f : Meas → Meas) : (s.modMeas f).setup = s.setup := rfl
@[simp] theorem State.modMeas_panel (f : Meas → Meas) : (s.modMeas f).panel = s.panel := rfl
@[simp] theorem State.modMeas_fe (f : Meas → Meas) : (s.modMeas f).fe = s.fe := rfl
@[simp] theorem State.modMeas_acq (f : Meas → Meas) : (s.modMeas f).acq = s.acq := rfl
@[simp] theorem State.modMeas_ring (f : Meas → Meas) : (s.modMeas f).ring = s.ring := rfl
@[simp] theorem State.modMeas_meas (f : Meas → Meas) : (s.modMeas f).meas = f s.meas := rfl
@[simp] theorem State.modMeas_disp (f : Meas → Meas) : (s.modMeas f).disp = s.disp := rfl
@[simp] theorem State.modMeas_ov (f : Meas → Meas) : (s.modMeas f).ov = s.ov := rfl
@[simp] theorem State.modMeas_store (f : Meas → Meas) : (s.modMeas f).store = s.store := rfl
@[simp] theorem State.modMeas_power (f : Meas → Meas) : (s.modMeas f).power = s.power := rfl
@[simp] theorem State.modMeas_link (f : Meas → Meas) : (s.modMeas f).link = s.link := rfl
@[simp] theorem State.modMeas_boxes (f : Meas → Meas) : (s.modMeas f).boxes = s.boxes := rfl
@[simp] theorem State.modMeas_freeCtr (f : Meas → Meas) : (s.modMeas f).freeCtr = s.freeCtr := rfl

@[simp] theorem State.modDisp_pending (f : Display → Display) : (s.modDisp f).pending = s.pending := rfl
@[simp] theorem State.modDisp_clock (f : Display → Display) : (s.modDisp f).clock = s.clock := rfl
@[simp] theorem State.modDisp_pins (f : Display → Display) : (s.modDisp f).pins = s.pins := rfl
@[simp] theorem State.modDisp_setup (f : Display → Display) : (s.modDisp f).setup = s.setup := rfl
@[simp] theorem State.modDisp_panel (f : Display → Display) : (s.modDisp f).panel = s.panel := rfl
@[simp] theorem State.modDisp_fe (f : Display → Display) : (s.modDisp f).fe = s.fe := rfl
@[simp] theorem State.modDisp_acq (f : Display → Display) : (s.modDisp f).acq = s.acq := rfl
@[simp] theorem State.modDisp_ring (f : Display → Display) : (s.modDisp f).ring = s.ring := rfl
@[simp] theorem State.modDisp_meas (f : Display → Display) : (s.modDisp f).meas = s.meas := rfl
@[simp] theorem State.modDisp_disp (f : Display → Display) : (s.modDisp f).disp = f s.disp := rfl
@[simp] theorem State.modDisp_ov (f : Display → Display) : (s.modDisp f).ov = s.ov := rfl
@[simp] theorem State.modDisp_store (f : Display → Display) : (s.modDisp f).store = s.store := rfl
@[simp] theorem State.modDisp_power (f : Display → Display) : (s.modDisp f).power = s.power := rfl
@[simp] theorem State.modDisp_link (f : Display → Display) : (s.modDisp f).link = s.link := rfl
@[simp] theorem State.modDisp_boxes (f : Display → Display) : (s.modDisp f).boxes = s.boxes := rfl
@[simp] theorem State.modDisp_freeCtr (f : Display → Display) : (s.modDisp f).freeCtr = s.freeCtr := rfl

@[simp] theorem State.modOv_pending (f : Overlay → Overlay) : (s.modOv f).pending = s.pending := rfl
@[simp] theorem State.modOv_clock (f : Overlay → Overlay) : (s.modOv f).clock = s.clock := rfl
@[simp] theorem State.modOv_pins (f : Overlay → Overlay) : (s.modOv f).pins = s.pins := rfl
@[simp] theorem State.modOv_setup (f : Overlay → Overlay) : (s.modOv f).setup = s.setup := rfl
@[simp] theorem State.modOv_panel (f : Overlay → Overlay) : (s.modOv f).panel = s.panel := rfl
@[simp] theorem State.modOv_fe (f : Overlay → Overlay) : (s.modOv f).fe = s.fe := rfl
@[simp] theorem State.modOv_acq (f : Overlay → Overlay) : (s.modOv f).acq = s.acq := rfl
@[simp] theorem State.modOv_ring (f : Overlay → Overlay) : (s.modOv f).ring = s.ring := rfl
@[simp] theorem State.modOv_meas (f : Overlay → Overlay) : (s.modOv f).meas = s.meas := rfl
@[simp] theorem State.modOv_disp (f : Overlay → Overlay) : (s.modOv f).disp = s.disp := rfl
@[simp] theorem State.modOv_ov (f : Overlay → Overlay) : (s.modOv f).ov = f s.ov := rfl
@[simp] theorem State.modOv_store (f : Overlay → Overlay) : (s.modOv f).store = s.store := rfl
@[simp] theorem State.modOv_power (f : Overlay → Overlay) : (s.modOv f).power = s.power := rfl
@[simp] theorem State.modOv_link (f : Overlay → Overlay) : (s.modOv f).link = s.link := rfl
@[simp] theorem State.modOv_boxes (f : Overlay → Overlay) : (s.modOv f).boxes = s.boxes := rfl
@[simp] theorem State.modOv_freeCtr (f : Overlay → Overlay) : (s.modOv f).freeCtr = s.freeCtr := rfl

@[simp] theorem State.modStore_pending (f : Store → Store) : (s.modStore f).pending = s.pending := rfl
@[simp] theorem State.modStore_clock (f : Store → Store) : (s.modStore f).clock = s.clock := rfl
@[simp] theorem State.modStore_pins (f : Store → Store) : (s.modStore f).pins = s.pins := rfl
@[simp] theorem State.modStore_setup (f : Store → Store) : (s.modStore f).setup = s.setup := rfl
@[simp] theorem State.modStore_panel (f : Store → Store) : (s.modStore f).panel = s.panel := rfl
@[simp] theorem State.modStore_fe (f : Store → Store) : (s.modStore f).fe = s.fe := rfl
@[simp] theorem State.modStore_acq (f : Store → Store) : (s.modStore f).acq = s.acq := rfl
@[simp] theorem State.modStore_ring (f : Store → Store) : (s.modStore f).ring = s.ring := rfl
@[simp] theorem State.modStore_meas (f : Store → Store) : (s.modStore f).meas = s.meas := rfl
@[simp] theorem State.modStore_disp (f : Store → Store) : (s.modStore f).disp = s.disp := rfl
@[simp] theorem State.modStore_ov (f : Store → Store) : (s.modStore f).ov = s.ov := rfl
@[simp] theorem State.modStore_store (f : Store → Store) : (s.modStore f).store = f s.store := rfl
@[simp] theorem State.modStore_power (f : Store → Store) : (s.modStore f).power = s.power := rfl
@[simp] theorem State.modStore_link (f : Store → Store) : (s.modStore f).link = s.link := rfl
@[simp] theorem State.modStore_boxes (f : Store → Store) : (s.modStore f).boxes = s.boxes := rfl
@[simp] theorem State.modStore_freeCtr (f : Store → Store) : (s.modStore f).freeCtr = s.freeCtr := rfl

@[simp] theorem State.modPower_pending (f : Power → Power) : (s.modPower f).pending = s.pending := rfl
@[simp] theorem State.modPower_clock (f : Power → Power) : (s.modPower f).clock = s.clock := rfl
@[simp] theorem State.modPower_pins (f : Power → Power) : (s.modPower f).pins = s.pins := rfl
@[simp] theorem State.modPower_setup (f : Power → Power) : (s.modPower f).setup = s.setup := rfl
@[simp] theorem State.modPower_panel (f : Power → Power) : (s.modPower f).panel = s.panel := rfl
@[simp] theorem State.modPower_fe (f : Power → Power) : (s.modPower f).fe = s.fe := rfl
@[simp] theorem State.modPower_acq (f : Power → Power) : (s.modPower f).acq = s.acq := rfl
@[simp] theorem State.modPower_ring (f : Power → Power) : (s.modPower f).ring = s.ring := rfl
@[simp] theorem State.modPower_meas (f : Power → Power) : (s.modPower f).meas = s.meas := rfl
@[simp] theorem State.modPower_disp (f : Power → Power) : (s.modPower f).disp = s.disp := rfl
@[simp] theorem State.modPower_ov (f : Power → Power) : (s.modPower f).ov = s.ov := rfl
@[simp] theorem State.modPower_store (f : Power → Power) : (s.modPower f).store = s.store := rfl
@[simp] theorem State.modPower_power (f : Power → Power) : (s.modPower f).power = f s.power := rfl
@[simp] theorem State.modPower_link (f : Power → Power) : (s.modPower f).link = s.link := rfl
@[simp] theorem State.modPower_boxes (f : Power → Power) : (s.modPower f).boxes = s.boxes := rfl
@[simp] theorem State.modPower_freeCtr (f : Power → Power) : (s.modPower f).freeCtr = s.freeCtr := rfl

@[simp] theorem State.modLink_pending (f : Link → Link) : (s.modLink f).pending = s.pending := rfl
@[simp] theorem State.modLink_clock (f : Link → Link) : (s.modLink f).clock = s.clock := rfl
@[simp] theorem State.modLink_pins (f : Link → Link) : (s.modLink f).pins = s.pins := rfl
@[simp] theorem State.modLink_setup (f : Link → Link) : (s.modLink f).setup = s.setup := rfl
@[simp] theorem State.modLink_panel (f : Link → Link) : (s.modLink f).panel = s.panel := rfl
@[simp] theorem State.modLink_fe (f : Link → Link) : (s.modLink f).fe = s.fe := rfl
@[simp] theorem State.modLink_acq (f : Link → Link) : (s.modLink f).acq = s.acq := rfl
@[simp] theorem State.modLink_ring (f : Link → Link) : (s.modLink f).ring = s.ring := rfl
@[simp] theorem State.modLink_meas (f : Link → Link) : (s.modLink f).meas = s.meas := rfl
@[simp] theorem State.modLink_disp (f : Link → Link) : (s.modLink f).disp = s.disp := rfl
@[simp] theorem State.modLink_ov (f : Link → Link) : (s.modLink f).ov = s.ov := rfl
@[simp] theorem State.modLink_store (f : Link → Link) : (s.modLink f).store = s.store := rfl
@[simp] theorem State.modLink_power (f : Link → Link) : (s.modLink f).power = s.power := rfl
@[simp] theorem State.modLink_link (f : Link → Link) : (s.modLink f).link = f s.link := rfl
@[simp] theorem State.modLink_boxes (f : Link → Link) : (s.modLink f).boxes = s.boxes := rfl
@[simp] theorem State.modLink_freeCtr (f : Link → Link) : (s.modLink f).freeCtr = s.freeCtr := rfl

@[simp] theorem State.modBoxes_pending (f : Boxes → Boxes) : (s.modBoxes f).pending = s.pending := rfl
@[simp] theorem State.modBoxes_clock (f : Boxes → Boxes) : (s.modBoxes f).clock = s.clock := rfl
@[simp] theorem State.modBoxes_pins (f : Boxes → Boxes) : (s.modBoxes f).pins = s.pins := rfl
@[simp] theorem State.modBoxes_setup (f : Boxes → Boxes) : (s.modBoxes f).setup = s.setup := rfl
@[simp] theorem State.modBoxes_panel (f : Boxes → Boxes) : (s.modBoxes f).panel = s.panel := rfl
@[simp] theorem State.modBoxes_fe (f : Boxes → Boxes) : (s.modBoxes f).fe = s.fe := rfl
@[simp] theorem State.modBoxes_acq (f : Boxes → Boxes) : (s.modBoxes f).acq = s.acq := rfl
@[simp] theorem State.modBoxes_ring (f : Boxes → Boxes) : (s.modBoxes f).ring = s.ring := rfl
@[simp] theorem State.modBoxes_meas (f : Boxes → Boxes) : (s.modBoxes f).meas = s.meas := rfl
@[simp] theorem State.modBoxes_disp (f : Boxes → Boxes) : (s.modBoxes f).disp = s.disp := rfl
@[simp] theorem State.modBoxes_ov (f : Boxes → Boxes) : (s.modBoxes f).ov = s.ov := rfl
@[simp] theorem State.modBoxes_store (f : Boxes → Boxes) : (s.modBoxes f).store = s.store := rfl
@[simp] theorem State.modBoxes_power (f : Boxes → Boxes) : (s.modBoxes f).power = s.power := rfl
@[simp] theorem State.modBoxes_link (f : Boxes → Boxes) : (s.modBoxes f).link = s.link := rfl
@[simp] theorem State.modBoxes_boxes (f : Boxes → Boxes) : (s.modBoxes f).boxes = f s.boxes := rfl
@[simp] theorem State.modBoxes_freeCtr (f : Boxes → Boxes) : (s.modBoxes f).freeCtr = s.freeCtr := rfl

@[simp] theorem State.modFree_pending (f : Nat → Nat) : (s.modFree f).pending = s.pending := rfl
@[simp] theorem State.modFree_clock (f : Nat → Nat) : (s.modFree f).clock = s.clock := rfl
@[simp] theorem State.modFree_pins (f : Nat → Nat) : (s.modFree f).pins = s.pins := rfl
@[simp] theorem State.modFree_setup (f : Nat → Nat) : (s.modFree f).setup = s.setup := rfl
@[simp] theorem State.modFree_panel (f : Nat → Nat) : (s.modFree f).panel = s.panel := rfl
@[simp] theorem State.modFree_fe (f : Nat → Nat) : (s.modFree f).fe = s.fe := rfl
@[simp] theorem State.modFree_acq (f : Nat → Nat) : (s.modFree f).acq = s.acq := rfl
@[simp] theorem State.modFree_ring (f : Nat → Nat) : (s.modFree f).ring = s.ring := rfl
@[simp] theorem State.modFree_meas (f : Nat → Nat) : (s.modFree f).meas = s.meas := rfl
@[simp] theorem State.modFree_disp (f : Nat → Nat) : (s.modFree f).disp = s.disp := rfl
@[simp] theorem State.modFree_ov (f : Nat → Nat) : (s.modFree f).ov = s.ov := rfl
@[simp] theorem State.modFree_store (f : Nat → Nat) : (s.modFree f).store = s.store := rfl
@[simp] theorem State.modFree_power (f : Nat → Nat) : (s.modFree f).power = s.power := rfl
@[simp] theorem State.modFree_link (f : Nat → Nat) : (s.modFree f).link = s.link := rfl
@[simp] theorem State.modFree_boxes (f : Nat → Nat) : (s.modFree f).boxes = s.boxes := rfl
@[simp] theorem State.modFree_freeCtr (f : Nat → Nat) : (s.modFree f).freeCtr = f s.freeCtr := rfl

end Sys2Proof.Machine
end

