-- ==== Sys2Proof/Laws/Frame.lean ====
section
/-! SUPPORT. What each shared operation can change: one lemma for each, in a form that chains. Where `c` says that from `s` to
`t` nothing but the listed parts has changed, `c.op` says the same of the state after the operation. -/

namespace Sys2Proof.Machine

set_option Elab.async false

theorem Changes.refl (bs : List Block) (s : State) : Changes bs s s := by
  intro b _
  cases b <;> rfl

/-- A part that is not listed is the same. -/
theorem Changes.get {bs : List Block} {s t : State} (c : Changes bs s t) (b : Block) (h : b ∉ bs := by decide) :
    b.same s t := c b h

theorem Block.same.trans {b : Block} {s t u : State} (h : b.same s t) (k : b.same t u) : b.same s u := by
  cases b <;> exact Eq.trans k h

theorem Changes.via {bs cs : List Block} {s t u : State} (c : Changes bs s t) (h : cs ⊆ bs) (k : Changes cs t u) :
    Changes bs s u := fun b hb => (c b hb).trans (k b (fun m => hb (h m)))

/-- A fold of an operation that changes listed blocks alone. -/
theorem Changes.foldl {α : Type} {bs : List Block} {s : State} {f : State → α → State}
    (hf : ∀ t a, Changes bs t (f t a)) : ∀ (l : List α) {t : State}, Changes bs s t → Changes bs s (l.foldl f t)
  | [], _, c => c
  | a :: l, t, c => Changes.foldl hf l (c.via (List.Subset.refl bs) (hf t a))

theorem Changes.modClock {bs : List Block} {s t : State} (c : Changes bs s t) (f : Clock → Clock)
    (h : ([.clock] : List Block) ⊆ bs := by decide) : Changes bs s (t.modClock f) := by
  refine c.via h (fun b hb => ?_)
  cases b <;> first | rfl | simp at hb

theorem Changes.modPins {bs : List Block} {s t : State} (c : Changes bs s t) (f : Pins → Pins)
    (h : ([.pins] : List Block) ⊆ bs := by decide) : Changes bs s (t.modPins f) := by
  refine c.via h (fun b hb => ?_)
  cases b <;> first | rfl | simp at hb

theorem Changes.modSetup {bs : List Block} {s t : State} (c : Changes bs s t) (f : SetupCtl → SetupCtl)
    (h : ([.setup] : List Block) ⊆ bs := by decide) : Changes bs s (t.modSetup f) := by
  refine c.via h (fun b hb => ?_)
  cases b <;> first | rfl | simp at hb

theorem Changes.modPanel {bs : List Block} {s t : State} (c : Changes bs s t) (f : Panel → Panel)
    (h : ([.panel] : List Block) ⊆ bs := by decide) : Changes bs s (t.modPanel f) := by
  refine c.via h (fun b hb => ?_)
  cases b <;> first | rfl | simp at hb

theorem Changes.modFe {bs : List Block} {s t : State} (c : Changes bs s t) (f : FrontEnd → FrontEnd)
    (h : ([.fe] : List Block) ⊆ bs := by decide) : Changes bs s (t.modFe f) := by
  refine c.via h (fun b hb => ?_)
  cases b <;> first | rfl | simp at hb

theorem Changes.modAcq {bs : List Block} {s t : State} (c : Changes bs s t) (f : Acq → Acq)
    (h : ([.acq] : List Block) ⊆ bs := by decide) : Changes bs s (t.modAcq f) := by
  refine c.via h (fun b hb => ?_)
  cases b <;> first | rfl | simp at hb

theorem Changes.modRing {bs : List Block} {s t : State} (c : Changes bs s t) (f : Ring → Ring)
    (h : ([.ring] : List Block) ⊆ bs := by decide) : Changes bs s (t.modRing f) := by
  refine c.via h (fun b hb => ?_)
  cases b <;> first | rfl | simp at hb

theorem Changes.modMeas {bs : List Block} {s t : State} (c : Changes bs s t) (f : Meas → Meas)
    (h : ([.meas] : List Block) ⊆ bs := by decide) : Changes bs s (t.modMeas f) := by
  refine c.via h (fun b hb => ?_)
  cases b <;> first | rfl | simp at hb

theorem Changes.modDisp {bs : List Block} {s t : State} (c : Changes bs s t) (f : Display → Display)
    (h : ([.disp] : List Block) ⊆ bs := by decide) : Changes bs s (t.modDisp f) := by
  refine c.via h (fun b hb => ?_)
  cases b <;> first | rfl | simp at hb

theorem Changes.modOv {bs : List Block} {s t : State} (c : Changes bs s t) (f : Overlay → Overlay)
    (h : ([.ov] : List Block) ⊆ bs := by decide) : Changes bs s (t.modOv f) := by
  refine c.via h (fun b hb => ?_)
  cases b <;> first | rfl | simp at hb

theorem Changes.modStore {bs : List Block} {s t : State} (c : Changes bs s t) (f : Store → Store)
    (h : ([.store] : List Block) ⊆ bs := by decide) : Changes bs s (t.modStore f) := by
  refine c.via h (fun b hb => ?_)
  cases b <;> first | rfl | simp at hb

theorem Changes.modPower {bs : List Block} {s t : State} (c : Changes bs s t) (f : Power → Power)
    (h : ([.power] : List Block) ⊆ bs := by decide) : Changes bs s (t.modPower f) := by
  refine c.via h (fun b hb => ?_)
  cases b <;> first | rfl | simp at hb

theorem Changes.modLink {bs : List Block} {s t : State} (c : Changes bs s t) (f : Link → Link)
    (h : ([.link] : List Block) ⊆ bs := by decide) : Changes bs s (t.modLink f) := by
  refine c.via h (fun b hb => ?_)
  cases b <;> first | rfl | simp at hb

theorem Changes.modBoxes {bs : List Block} {s t : State} (c : Changes bs s t) (f : Boxes → Boxes)
    (h : ([.boxes] : List Block) ⊆ bs := by decide) : Changes bs s (t.modBoxes f) := by
  refine c.via h (fun b hb => ?_)
  cases b <;> first | rfl | simp at hb

theorem Changes.modFree {bs : List Block} {s t : State} (c : Changes bs s t) (f : Nat → Nat)
    (h : ([.freeCtr] : List Block) ⊆ bs := by decide) : Changes bs s (t.modFree f) := by
  refine c.via h (fun b hb => ?_)
  cases b <;> first | rfl | simp at hb

theorem Changes.advanceTo {bs : List Block} {s t : State} (c : Changes bs s t) (x : Nat)
    (h : ([.clock] : List Block) ⊆ bs := by decide) : Changes bs s (t.advanceTo x) := by
  refine c.via h ?_
  unfold State.advanceTo
  repeat' first | with_reducible exact Changes.refl _ _ | with_reducible refine Changes.modClock ?_ _

theorem Changes.tick {bs : List Block} {s t : State} (c : Changes bs s t)
    (h : ([.clock] : List Block) ⊆ bs := by decide) : Changes bs s (t.tick) := by
  refine c.via h ?_
  unfold State.tick
  repeat' first | with_reducible exact Changes.refl _ _ | with_reducible refine Changes.modClock ?_ _

theorem Changes.zeroTimeBase {bs : List Block} {s t : State} (c : Changes bs s t)
    (h : ([.clock] : List Block) ⊆ bs := by decide) : Changes bs s (t.zeroTimeBase) := by
  refine c.via h ?_
  unfold State.zeroTimeBase
  repeat' first | with_reducible exact Changes.refl _ _ | with_reducible refine Changes.modClock ?_ _

theorem Changes.kick {bs : List Block} {s t : State} (c : Changes bs s t)
    (h : ([.link] : List Block) ⊆ bs := by decide) : Changes bs s (t.kick) := by
  refine c.via h ?_
  unfold State.kick
  repeat' first | with_reducible exact Changes.refl _ _ | with_reducible refine Changes.modLink ?_ _ | split

theorem Changes.offer {bs : List Block} {s t : State} (c : Changes bs s t) (n : Notice)
    (h : ([.link] : List Block) ⊆ bs := by decide) : Changes bs s (t.offer n) := by
  refine c.via h ?_
  unfold State.offer
  repeat' first | with_reducible exact Changes.refl _ _ | with_reducible refine Changes.modLink ?_ _ | with_reducible refine Changes.kick ?_ | split

theorem Changes.pushReply {bs : List Block} {s t : State} (c : Changes bs s t) (r : Reply)
    (h : ([.link] : List Block) ⊆ bs := by decide) : Changes bs s (t.pushReply r) := by
  refine c.via h ?_
  unfold State.pushReply
  repeat' first | with_reducible exact Changes.refl _ _ | with_reducible refine Changes.modLink ?_ _ | with_reducible refine Changes.kick ?_

theorem Changes.completeLong {bs : List Block} {s t : State} (c : Changes bs s t) (k : Byte) (st : Status) (p : List Byte)
    (h : ([.link] : List Block) ⊆ bs := by decide) : Changes bs s (t.completeLong k st p) := by
  refine c.via h ?_
  unfold State.completeLong
  repeat' first | with_reducible exact Changes.refl _ _ | with_reducible refine Changes.modLink ?_ _ | with_reducible refine Changes.pushReply ?_ _ | split

theorem Changes.takeFrame {bs : List Block} {s t : State} (c : Changes bs s t)
    (h : ([.link] : List Block) ⊆ bs := by decide) : Changes bs s (t.takeFrame) := by
  refine c.via h ?_
  unfold State.takeFrame
  repeat' first | with_reducible exact Changes.refl _ _ | with_reducible refine Changes.modLink ?_ _

theorem Changes.answer {bs : List Block} {s t : State} (c : Changes bs s t) (k tag : Byte) (a : Answer)
    (h : ([.link] : List Block) ⊆ bs := by decide) : Changes bs s (t.answer k tag a) := by
  refine c.via h ?_
  unfold State.answer
  repeat' first | with_reducible exact Changes.refl _ _ | with_reducible refine Changes.modLink ?_ _ | with_reducible refine Changes.pushReply ?_ _ | split

theorem Changes.showReadiness {bs : List Block} {s t : State} (c : Changes bs s t)
    (h : ([.boxes, .fe] : List Block) ⊆ bs := by decide) : Changes bs s (t.showReadiness) := by
  refine c.via h ?_
  unfold State.showReadiness
  repeat' first | with_reducible exact Changes.refl _ _ | with_reducible refine Changes.modBoxes ?_ _ | with_reducible refine Changes.modFe ?_ _ | split

theorem Changes.showGate {bs : List Block} {s t : State} (c : Changes bs s t)
    (h : ([.boxes, .meas] : List Block) ⊆ bs := by decide) : Changes bs s (t.showGate) := by
  refine c.via h ?_
  unfold State.showGate
  repeat' first | with_reducible exact Changes.refl _ _ | with_reducible refine Changes.modBoxes ?_ _ | with_reducible refine Changes.modMeas ?_ _ | split

theorem Changes.announce {bs : List Block} {s t : State} (c : Changes bs s t) (a : SetupAnn)
    (h : ([.boxes] : List Block) ⊆ bs := by decide) : Changes bs s (t.announce a) := by
  refine c.via h ?_
  unfold State.announce
  repeat' first | with_reducible exact Changes.refl _ _ | with_reducible refine Changes.modBoxes ?_ _

theorem Changes.setupWritten {bs : List Block} {s t : State} (c : Changes bs s t) (l : List Change)
    (h : ([.meas, .fe, .boxes] : List Block) ⊆ bs := by decide) : Changes bs s (t.setupWritten l) := by
  refine c.via h ?_
  unfold State.setupWritten
  repeat' first | with_reducible exact Changes.refl _ _ | with_reducible refine Changes.modMeas ?_ _ | with_reducible refine Changes.showReadiness ?_ | with_reducible refine Changes.showGate ?_

theorem Changes.writeSetup {bs : List Block} {s t : State} (c : Changes bs s t) (v : SetupVals) (l : List Change)
    (h : ([.setup, .meas, .fe, .boxes] : List Block) ⊆ bs := by decide) : Changes bs s (t.writeSetup v l) := by
  refine c.via h ?_
  unfold State.writeSetup
  repeat' first | with_reducible exact Changes.refl _ _ | with_reducible refine Changes.modSetup ?_ _ | with_reducible refine Changes.modMeas ?_ _ | with_reducible refine Changes.setupWritten ?_ _

theorem Changes.applyField {bs : List Block} {s t : State} (c : Changes bs s t) (i : Fin 87) (v : Int) (src : Source) (e : Option (Fin 12))
    (h : ([.setup, .meas, .fe, .boxes, .link] : List Block) ⊆ bs := by decide) : Changes bs s (t.applyField i v src e) := by
  refine c.via h ?_
  unfold State.applyField
  dsimp only
  repeat' first | with_reducible exact Changes.refl _ _ | with_reducible refine Changes.modSetup ?_ _ | with_reducible refine Changes.writeSetup ?_ _ _ | with_reducible refine Changes.announce ?_ _ | with_reducible refine Changes.offer ?_ _ | split

theorem Changes.keyChange {bs : List Block} {s t : State} (c : Changes bs s t) (i : Nat) (v : Int)
    (h : ([.setup, .meas, .fe, .boxes, .link] : List Block) ⊆ bs := by decide) : Changes bs s (t.keyChange i v) := by
  refine c.via h ?_
  unfold State.keyChange
  repeat' first | with_reducible exact Changes.refl _ _ | with_reducible refine Changes.applyField ?_ _ _ _ _ | split

theorem Changes.replaceSetup {bs : List Block} {s t : State} (c : Changes bs s t) (v : SetupVals) (src : Source) (r : Reason)
    (h : ([.setup, .meas, .fe, .boxes, .link] : List Block) ⊆ bs := by decide) : Changes bs s (t.replaceSetup v src r) := by
  refine c.via h ?_
  unfold State.replaceSetup
  dsimp only
  repeat' first | with_reducible exact Changes.refl _ _ | with_reducible refine Changes.modSetup ?_ _ | with_reducible refine Changes.writeSetup ?_ _ _ | with_reducible refine Changes.announce ?_ _ | with_reducible refine Changes.offer ?_ _ | split

theorem Changes.applyDefaults {bs : List Block} {s t : State} (c : Changes bs s t)
    (h : ([.setup, .meas, .fe, .boxes, .link] : List Block) ⊆ bs := by decide) : Changes bs s (t.applyDefaults) := by
  refine c.via h ?_
  unfold State.applyDefaults
  repeat' first | with_reducible exact Changes.refl _ _ | with_reducible refine Changes.replaceSetup ?_ _ _ _

theorem Changes.applyUndo {bs : List Block} {s t : State} (c : Changes bs s t)
    (h : ([.setup, .meas, .fe, .boxes, .link] : List Block) ⊆ bs := by decide) : Changes bs s (t.applyUndo) := by
  refine c.via h ?_
  unfold State.applyUndo
  dsimp only
  repeat' first | with_reducible exact Changes.refl _ _ | with_reducible refine Changes.modSetup ?_ _ | with_reducible refine Changes.applyField ?_ _ _ _ _ | with_reducible refine Changes.replaceSetup ?_ _ _ _ | split

theorem Changes.announceRing {bs : List Block} {s t : State} (c : Changes bs s t) (a : RingAnn)
    (h : ([.boxes] : List Block) ⊆ bs := by decide) : Changes bs s (t.announceRing a) := by
  refine c.via h ?_
  unfold State.announceRing
  repeat' first | with_reducible exact Changes.refl _ _ | with_reducible refine Changes.modBoxes ?_ _

theorem Changes.discardRecord {bs : List Block} {s t : State} (c : Changes bs s t) (x : Record)
    (h : ([.ring, .boxes] : List Block) ⊆ bs := by decide) : Changes bs s (t.discardRecord x) := by
  refine c.via h ?_
  unfold State.discardRecord
  repeat' first | with_reducible exact Changes.refl _ _ | with_reducible refine Changes.modRing ?_ _ | with_reducible refine Changes.announceRing ?_ _

theorem Changes.cancelPin {bs : List Block} {s t : State} (c : Changes bs s t)
    (h : ([.ring, .boxes] : List Block) ⊆ bs := by decide) : Changes bs s (t.cancelPin) := by
  refine c.via h ?_
  unfold State.cancelPin
  repeat' first | with_reducible exact Changes.refl _ _ | with_reducible refine Changes.modRing ?_ _ | with_reducible refine Changes.modBoxes ?_ _ | split

theorem Changes.rebuild {bs : List Block} {s t : State} (c : Changes bs s t)
    (h : ([.ring, .boxes] : List Block) ⊆ bs := by decide) : Changes bs s (t.rebuild) := by
  refine c.via h ?_
  unfold State.rebuild
  dsimp only
  repeat' first | with_reducible exact Changes.refl _ _ | with_reducible refine Changes.cancelPin ?_ | with_reducible refine Changes.modRing ?_ _ | with_reducible refine Changes.announceRing ?_ _ | with_reducible refine Changes.modBoxes ?_ _

theorem Changes.geomCheck {bs : List Block} {s t : State} (c : Changes bs s t)
    (h : ([.ring, .boxes] : List Block) ⊆ bs := by decide) : Changes bs s (t.geomCheck) := by
  refine c.via h ?_
  unfold State.geomCheck
  repeat' first | with_reducible exact Changes.refl _ _ | with_reducible refine Changes.modRing ?_ _ | with_reducible refine Changes.rebuild ?_ | split

theorem Changes.grantSlot {bs : List Block} {s t : State} (c : Changes bs s t) (i : Nat)
    (h : ([.ring] : List Block) ⊆ bs := by decide) : Changes bs s (t.grantSlot i) := by
  refine c.via h ?_
  unfold State.grantSlot
  repeat' first | with_reducible exact Changes.refl _ _ | with_reducible refine Changes.modRing ?_ _

theorem Changes.freeSlot {bs : List Block} {s t : State} (c : Changes bs s t) (i : Nat)
    (h : ([.ring, .boxes] : List Block) ⊆ bs := by decide) : Changes bs s (t.freeSlot i) := by
  refine c.via h ?_
  unfold State.freeSlot
  repeat' first | with_reducible exact Changes.refl _ _ | with_reducible refine Changes.modRing ?_ _ | with_reducible refine Changes.geomCheck ?_

theorem Changes.withdrawClaim {bs : List Block} {s t : State} (c : Changes bs s t)
    (h : ([.ring, .boxes] : List Block) ⊆ bs := by decide) : Changes bs s (t.withdrawClaim) := by
  refine c.via h ?_
  have f (u : State) (i : Nat) := (Changes.refl [.ring, .boxes] u).freeSlot i
  unfold State.withdrawClaim
  exact Changes.foldl f _ (((Changes.refl _ _).modRing _).modBoxes _)

theorem Changes.commitRecord {bs : List Block} {s t : State} (c : Changes bs s t) (x : Record)
    (h : ([.ring, .boxes, .meas, .link] : List Block) ⊆ bs := by decide) : Changes bs s (t.commitRecord x) := by
  refine c.via h ?_
  unfold State.commitRecord
  dsimp only
  repeat' first | with_reducible exact Changes.refl _ _ | with_reducible refine Changes.modRing ?_ _ | with_reducible refine Changes.announceRing ?_ _ | with_reducible refine Changes.showGate ?_ | with_reducible refine Changes.offer ?_ _ | with_reducible refine Changes.geomCheck ?_

theorem Changes.resetRing {bs : List Block} {s t : State} (c : Changes bs s t)
    (h : ([.ring, .boxes, .meas] : List Block) ⊆ bs := by decide) : Changes bs s (t.resetRing) := by
  refine c.via h ?_
  unfold State.resetRing
  dsimp only
  repeat' first | with_reducible exact Changes.refl _ _ | with_reducible refine Changes.cancelPin ?_ | with_reducible refine Changes.modRing ?_ _ | with_reducible refine Changes.announceRing ?_ _ | with_reducible refine Changes.geomCheck ?_ | with_reducible refine Changes.showGate ?_

theorem Changes.startEval {bs : List Block} {s t : State} (c : Changes bs s t) (x : Record) (k : EvalKind)
    (h : ([.meas] : List Block) ⊆ bs := by decide) : Changes bs s (t.startEval x k) := by
  refine c.via h ?_
  unfold State.startEval
  repeat' first | with_reducible exact Changes.refl _ _ | with_reducible refine Changes.modMeas ?_ _

theorem Changes.startReEval {bs : List Block} {s t : State} (c : Changes bs s t)
    (h : ([.meas] : List Block) ⊆ bs := by decide) : Changes bs s (t.startReEval) := by
  refine c.via h ?_
  unfold State.startReEval
  repeat' first | with_reducible exact Changes.refl _ _ | with_reducible refine Changes.startEval ?_ _ _ | with_reducible refine Changes.modMeas ?_ _ | split

theorem Changes.writeResults {bs : List Block} {s t : State} (c : Changes bs s t) (e : Eval) (rs : Vector SlotResult 6)
    (h : ([.meas] : List Block) ⊆ bs := by decide) : Changes bs s (t.writeResults e rs) := by
  refine c.via h ?_
  unfold State.writeResults
  repeat' first | with_reducible exact Changes.refl _ _ | with_reducible refine Changes.modMeas ?_ _

theorem Changes.countResults {bs : List Block} {s t : State} (c : Changes bs s t) (e : Eval) (rs : Vector SlotResult 6)
    (h : ([.meas] : List Block) ⊆ bs := by decide) : Changes bs s (t.countResults e rs) := by
  refine c.via h ?_
  unfold State.countResults
  repeat' first | with_reducible exact Changes.refl _ _ | with_reducible refine Changes.modMeas ?_ _

theorem Changes.applyFailStop {bs : List Block} {s t : State} (c : Changes bs s t) (v : Verdict)
    (h : ([.meas, .boxes] : List Block) ⊆ bs := by decide) : Changes bs s (t.applyFailStop v) := by
  refine c.via h ?_
  unfold State.applyFailStop
  repeat' first | with_reducible exact Changes.refl _ _ | with_reducible refine Changes.modMeas ?_ _ | with_reducible refine Changes.modBoxes ?_ _ | split

theorem Changes.offerResult {bs : List Block} {s t : State} (c : Changes bs s t) (e : Eval)
    (h : ([.meas, .link] : List Block) ⊆ bs := by decide) : Changes bs s (t.offerResult e) := by
  refine c.via h ?_
  unfold State.offerResult
  dsimp only
  repeat' first | with_reducible exact Changes.refl _ _ | with_reducible refine Changes.modMeas ?_ _ | with_reducible refine Changes.offer ?_ _ | split

theorem Changes.applyDecays {bs : List Block} {s t : State} (c : Changes bs s t)
    (h : ([.disp] : List Block) ⊆ bs := by decide) : Changes bs s (t.applyDecays) := by
  refine c.via h ?_
  unfold State.applyDecays
  repeat' first | with_reducible exact Changes.refl _ _ | with_reducible refine Changes.modDisp ?_ _

theorem Changes.clearPlanes {bs : List Block} {s t : State} (c : Changes bs s t)
    (h : ([.disp] : List Block) ⊆ bs := by decide) : Changes bs s (t.clearPlanes) := by
  refine c.via h ?_
  unfold State.clearPlanes
  repeat' first | with_reducible exact Changes.refl _ _ | with_reducible refine Changes.modDisp ?_ _

theorem Changes.startRaster {bs : List Block} {s t : State} (c : Changes bs s t) (x : Record) (k : RasterKind)
    (h : ([.disp] : List Block) ⊆ bs := by decide) : Changes bs s (t.startRaster x k) := by
  refine c.via h ?_
  unfold State.startRaster
  dsimp only
  repeat' first | with_reducible exact Changes.refl _ _ | with_reducible refine Changes.modDisp ?_ _ | with_reducible refine Changes.clearPlanes ?_ | split

theorem Changes.passGone {bs : List Block} {s t : State} (c : Changes bs s t)
    (h : ([.disp] : List Block) ⊆ bs := by decide) : Changes bs s (t.passGone) := by
  refine c.via h ?_
  unfold State.passGone
  repeat' first | with_reducible exact Changes.refl _ _ | with_reducible refine Changes.modDisp ?_ _ | split

theorem Changes.offerAcq {bs : List Block} {s t : State} (c : Changes bs s t) (x : AcqCause)
    (h : ([.link] : List Block) ⊆ bs := by decide) : Changes bs s (t.offerAcq x) := by
  refine c.via h ?_
  unfold State.offerAcq
  repeat' first | with_reducible exact Changes.refl _ _ | with_reducible refine Changes.offer ?_ _

theorem Changes.reload {bs : List Block} {s t : State} (c : Changes bs s t)
    (h : ([.acq] : List Block) ⊆ bs := by decide) : Changes bs s (t.reload) := by
  refine c.via h ?_
  unfold State.reload
  repeat' first | with_reducible exact Changes.refl _ _ | with_reducible refine Changes.modAcq ?_ _

theorem Changes.reloadIfDeferred {bs : List Block} {s t : State} (c : Changes bs s t)
    (h : ([.acq] : List Block) ⊆ bs := by decide) : Changes bs s (t.reloadIfDeferred) := by
  refine c.via h ?_
  unfold State.reloadIfDeferred
  repeat' first | with_reducible exact Changes.refl _ _ | with_reducible refine Changes.reload ?_ | split

theorem Changes.setCap {bs : List Block} {s t : State} (c : Changes bs s t) (x : Capture)
    (h : ([.acq] : List Block) ⊆ bs := by decide) : Changes bs s (t.setCap x) := by
  refine c.via h ?_
  unfold State.setCap
  repeat' first | with_reducible exact Changes.refl _ _ | with_reducible refine Changes.modAcq ?_ _

theorem Changes.setAcqSt {bs : List Block} {s t : State} (c : Changes bs s t) (x : AcqSt)
    (h : ([.acq, .disp, .meas, .boxes] : List Block) ⊆ bs := by decide) : Changes bs s (t.setAcqSt x) := by
  refine c.via h ?_
  unfold State.setAcqSt
  dsimp only
  repeat' first | with_reducible exact Changes.refl _ _ | with_reducible refine Changes.modAcq ?_ _ | with_reducible refine Changes.modDisp ?_ _ | with_reducible refine Changes.modMeas ?_ _ | with_reducible refine Changes.showGate ?_ | split

theorem Changes.acceptTrigger {bs : List Block} {s t : State} (c : Changes bs s t) (k : Capture) (x : TrigCause) (hit : Bool)
    (h : ([.acq, .disp, .meas, .boxes] : List Block) ⊆ bs := by decide) : Changes bs s (t.acceptTrigger k x hit) := by
  refine c.via h ?_
  unfold State.acceptTrigger
  dsimp only
  repeat' first | with_reducible exact Changes.refl _ _ | with_reducible refine Changes.modAcq ?_ _ | with_reducible refine Changes.setAcqSt ?_ _

theorem Changes.enterArmed {bs : List Block} {s t : State} (c : Changes bs s t) (k : Capture)
    (h : ([.acq, .disp, .meas, .boxes] : List Block) ⊆ bs := by decide) : Changes bs s (t.enterArmed k) := by
  refine c.via h ?_
  unfold State.enterArmed
  dsimp only
  repeat' first | with_reducible exact Changes.refl _ _ | with_reducible refine Changes.modAcq ?_ _ | with_reducible refine Changes.setAcqSt ?_ _ | with_reducible refine Changes.acceptTrigger ?_ _ _ _ | split

theorem Changes.testArmed {bs : List Block} {s t : State} (c : Changes bs s t)
    (h : ([.acq, .disp, .meas, .boxes] : List Block) ⊆ bs := by decide) : Changes bs s (t.testArmed) := by
  refine c.via h ?_
  unfold State.testArmed
  dsimp only
  repeat' first | with_reducible exact Changes.refl _ _ | with_reducible refine Changes.enterArmed ?_ _ | with_reducible refine Changes.modAcq ?_ _ | split

theorem Changes.flushInterval {bs : List Block} {s t : State} (c : Changes bs s t)
    (h : ([.acq, .disp, .meas, .boxes] : List Block) ⊆ bs := by decide) : Changes bs s (t.flushInterval) := by
  refine c.via h ?_
  unfold State.flushInterval
  repeat' first | with_reducible exact Changes.refl _ _ | with_reducible refine Changes.setCap ?_ _ | with_reducible refine Changes.testArmed ?_ | split

theorem Changes.qualifying {bs : List Block} {s t : State} (c : Changes bs s t)
    (h : ([.acq, .disp, .meas, .boxes] : List Block) ⊆ bs := by decide) : Changes bs s (t.qualifying) := by
  refine c.via h ?_
  unfold State.qualifying
  dsimp only
  repeat' first | with_reducible exact Changes.refl _ _ | with_reducible refine Changes.modAcq ?_ _ | with_reducible refine Changes.acceptTrigger ?_ _ _ _ | split

theorem Changes.crossing {bs : List Block} {s t : State} (c : Changes bs s t) (x : Bool)
    (h : ([.acq, .disp, .meas, .boxes] : List Block) ⊆ bs := by decide) : Changes bs s (t.crossing x) := by
  refine c.via h ?_
  unfold State.crossing
  dsimp only
  repeat' first | with_reducible exact Changes.refl _ _ | with_reducible refine Changes.qualifying ?_ | with_reducible refine Changes.modAcq ?_ _ | split

theorem Changes.hitSample {bs : List Block} {s t : State} (c : Changes bs s t) (k : Capture)
    (h : ([.acq] : List Block) ⊆ bs := by decide) : Changes bs s (t.hitSample k) := by
  refine c.via h ?_
  unfold State.hitSample
  repeat' first | with_reducible exact Changes.refl _ _ | with_reducible refine Changes.modAcq ?_ _ | split

theorem Changes.granted {bs : List Block} {s t : State} (c : Changes bs s t) (i : Nat)
    (h : ([.acq, .disp, .meas, .boxes] : List Block) ⊆ bs := by decide) : Changes bs s (t.granted i) := by
  refine c.via h ?_
  unfold State.granted
  repeat' first | with_reducible exact Changes.refl _ _ | with_reducible refine Changes.setCap ?_ _ | with_reducible refine Changes.setAcqSt ?_ _ | with_reducible refine Changes.testArmed ?_

theorem Changes.announceFault {bs : List Block} {s t : State} (c : Changes bs s t) (x : Bool)
    (h : ([.boxes] : List Block) ⊆ bs := by decide) : Changes bs s (t.announceFault x) := by
  refine c.via h ?_
  unfold State.announceFault
  repeat' first | with_reducible exact Changes.refl _ _ | with_reducible refine Changes.modBoxes ?_ _

theorem Changes.startTransfer {bs : List Block} {s t : State} (c : Changes bs s t) (x : Bool)
    (h : ([.fe, .boxes] : List Block) ⊆ bs := by decide) : Changes bs s (t.startTransfer x) := by
  refine c.via h ?_
  unfold State.startTransfer
  repeat' first | with_reducible exact Changes.refl _ _ | with_reducible refine Changes.modFe ?_ _ | with_reducible refine Changes.showReadiness ?_

theorem Changes.programFe {bs : List Block} {s t : State} (c : Changes bs s t) (x : Bool)
    (h : ([.fe, .boxes] : List Block) ⊆ bs := by decide) : Changes bs s (t.programFe x) := by
  refine c.via h ?_
  unfold State.programFe
  repeat' first | with_reducible exact Changes.refl _ _ | with_reducible refine Changes.startTransfer ?_ _ | with_reducible refine Changes.modFe ?_ _ | split

theorem Changes.latch {bs : List Block} {s t : State} (c : Changes bs s t) (x : Transfer)
    (h : ([.fe, .boxes] : List Block) ⊆ bs := by decide) : Changes bs s (t.latch x) := by
  refine c.via h ?_
  unfold State.latch
  dsimp only
  repeat' first | with_reducible exact Changes.refl _ _ | with_reducible refine Changes.modFe ?_ _ | with_reducible refine Changes.showReadiness ?_ | with_reducible refine Changes.programFe ?_ _ | split

theorem Changes.feUp {bs : List Block} {s t : State} (c : Changes bs s t)
    (h : ([.fe, .boxes] : List Block) ⊆ bs := by decide) : Changes bs s (t.feUp) := by
  refine c.via h ?_
  unfold State.feUp
  repeat' first | with_reducible exact Changes.refl _ _ | with_reducible refine Changes.modFe ?_ _ | with_reducible refine Changes.programFe ?_ _

theorem Changes.feFall {bs : List Block} {s t : State} (c : Changes bs s t)
    (h : ([.fe, .boxes] : List Block) ⊆ bs := by decide) : Changes bs s (t.feFall) := by
  refine c.via h ?_
  unfold State.feFall
  repeat' first | with_reducible exact Changes.refl _ _ | with_reducible refine Changes.modFe ?_ _ | with_reducible refine Changes.showReadiness ?_ | with_reducible refine Changes.announceFault ?_ _

theorem Changes.feStandby {bs : List Block} {s t : State} (c : Changes bs s t)
    (h : ([.fe, .boxes] : List Block) ⊆ bs := by decide) : Changes bs s (t.feStandby) := by
  refine c.via h ?_
  unfold State.feStandby
  repeat' first | with_reducible exact Changes.refl _ _ | with_reducible refine Changes.modFe ?_ _ | with_reducible refine Changes.showReadiness ?_

theorem Changes.scan {bs : List Block} {s t : State} (c : Changes bs s t) (raw : BitVec 64)
    (h : ([.panel] : List Block) ⊆ bs := by decide) : Changes bs s (t.scan raw) := by
  refine c.via h ?_
  unfold State.scan
  dsimp only
  repeat' first | with_reducible exact Changes.refl _ _ | with_reducible refine Changes.modPanel ?_ _

theorem Changes.queueKey {bs : List Block} {s t : State} (c : Changes bs s t) (p : Fin 64) (k : KeyEvKind) (x : Nat)
    (h : ([.panel] : List Block) ⊆ bs := by decide) : Changes bs s (t.queueKey p k x) := by
  refine c.via h ?_
  unfold State.queueKey
  repeat' first | with_reducible exact Changes.refl _ _ | with_reducible refine Changes.modPanel ?_ _ | split

theorem Changes.startBlink {bs : List Block} {s t : State} (c : Changes bs s t)
    (h : ([.panel] : List Block) ⊆ bs := by decide) : Changes bs s (t.startBlink) := by
  refine c.via h ?_
  unfold State.startBlink
  repeat' first | with_reducible exact Changes.refl _ _ | with_reducible refine Changes.modPanel ?_ _

theorem Changes.endBlink {bs : List Block} {s t : State} (c : Changes bs s t)
    (h : ([.panel] : List Block) ⊆ bs := by decide) : Changes bs s (t.endBlink) := by
  refine c.via h ?_
  unfold State.endBlink
  repeat' first | with_reducible exact Changes.refl _ _ | with_reducible refine Changes.modPanel ?_ _

theorem Changes.beginOp {bs : List Block} {s t : State} (c : Changes bs s t) (o : StoreOp)
    (h : ([.store] : List Block) ⊆ bs := by decide) : Changes bs s (t.beginOp o) := by
  refine c.via h ?_
  unfold State.beginOp
  repeat' first | with_reducible exact Changes.refl _ _ | with_reducible refine Changes.modStore ?_ _

theorem Changes.beginLast {bs : List Block} {s t : State} (c : Changes bs s t)
    (h : ([.store] : List Block) ⊆ bs := by decide) : Changes bs s (t.beginLast) := by
  refine c.via h ?_
  unfold State.beginLast
  repeat' first | with_reducible exact Changes.refl _ _ | with_reducible refine Changes.modStore ?_ _ | with_reducible refine Changes.beginOp ?_ _

theorem Changes.requestLast {bs : List Block} {s t : State} (c : Changes bs s t)
    (h : ([.store] : List Block) ⊆ bs := by decide) : Changes bs s (t.requestLast) := by
  refine c.via h ?_
  unfold State.requestLast
  repeat' first | with_reducible exact Changes.refl _ _ | with_reducible refine Changes.modStore ?_ _ | with_reducible refine Changes.beginLast ?_ | split

theorem Changes.requestLoad {bs : List Block} {s t : State} (c : Changes bs s t)
    (h : ([.store] : List Block) ⊆ bs := by decide) : Changes bs s (t.requestLoad) := by
  refine c.via h ?_
  unfold State.requestLoad
  repeat' first | with_reducible exact Changes.refl _ _ | with_reducible refine Changes.modStore ?_ _ | split

theorem Changes.storeReply {bs : List Block} {s t : State} (c : Changes bs s t) (o : StoreOp)
    (h : ([.link] : List Block) ⊆ bs := by decide) : Changes bs s (t.storeReply o) := by
  refine c.via h ?_
  unfold State.storeReply
  repeat' first | with_reducible exact Changes.refl _ _ | with_reducible refine Changes.completeLong ?_ _ _ _ | split

theorem Changes.calHanded {bs : List Block} {s t : State} (c : Changes bs s t) (o : StoreOp)
    (h : ([.fe] : List Block) ⊆ bs := by decide) : Changes bs s (t.calHanded o) := by
  refine c.via h ?_
  unfold State.calHanded
  repeat' first | with_reducible exact Changes.refl _ _ | with_reducible refine Changes.modFe ?_ _ | split

theorem Changes.storeDone {bs : List Block} {s t : State} (c : Changes bs s t) (o : StoreOp)
    (h : ([.store, .fe, .link] : List Block) ⊆ bs := by decide) : Changes bs s (t.storeDone o) := by
  refine c.via h ?_
  unfold State.storeDone
  dsimp only
  repeat' first | with_reducible exact Changes.refl _ _ | with_reducible refine Changes.modStore ?_ _ | with_reducible refine Changes.calHanded ?_ _ | with_reducible refine Changes.storeReply ?_ _ | with_reducible refine Changes.beginLast ?_ | split

theorem Changes.loadTables {bs : List Block} {s t : State} (c : Changes bs s t)
    (h : ([.store, .fe] : List Block) ⊆ bs := by decide) : Changes bs s (t.loadTables) := by
  refine c.via h ?_
  unfold State.loadTables
  repeat' first | with_reducible exact Changes.refl _ _ | with_reducible refine Changes.modStore ?_ _ | with_reducible refine Changes.modFe ?_ _

theorem Changes.loadSetup {bs : List Block} {s t : State} (c : Changes bs s t)
    (h : ([.setup, .meas, .fe, .boxes, .link] : List Block) ⊆ bs := by decide) : Changes bs s (t.loadSetup) := by
  refine c.via h ?_
  unfold State.loadSetup
  repeat' first | with_reducible exact Changes.refl _ _ | with_reducible refine Changes.replaceSetup ?_ _ _ _ | split

theorem Changes.loadHandover {bs : List Block} {s t : State} (c : Changes bs s t)
    (h : ([.store, .setup, .meas, .fe, .boxes, .link] : List Block) ⊆ bs := by decide) : Changes bs s (t.loadHandover) := by
  refine c.via h ?_
  unfold State.loadHandover
  repeat' first | with_reducible exact Changes.refl _ _ | with_reducible refine Changes.loadTables ?_ | with_reducible refine Changes.loadSetup ?_ | with_reducible refine Changes.modStore ?_ _ | split

theorem Changes.load {bs : List Block} {s t : State} (c : Changes bs s t)
    (h : ([.store, .setup, .meas, .fe, .boxes, .link] : List Block) ⊆ bs := by decide) : Changes bs s (t.load) := by
  refine c.via h ?_
  unfold State.load
  repeat' first | with_reducible exact Changes.refl _ _ | with_reducible refine Changes.loadHandover ?_ | with_reducible refine Changes.modStore ?_ _

theorem Changes.feReport {bs : List Block} {s t : State} (c : Changes bs s t)
    (h : ([.power, .store] : List Block) ⊆ bs := by decide) : Changes bs s (t.feReport) := by
  refine c.via h ?_
  unfold State.feReport
  repeat' first | with_reducible exact Changes.refl _ _ | with_reducible refine Changes.modPower ?_ _ | with_reducible refine Changes.requestLoad ?_ | split

theorem Changes.standbyReply {bs : List Block} {s t : State} (c : Changes bs s t) (x : Status)
    (h : ([.link] : List Block) ⊆ bs := by decide) : Changes bs s (t.standbyReply x) := by
  refine c.via h ?_
  unfold State.standbyReply
  repeat' first | with_reducible exact Changes.refl _ _ | with_reducible refine Changes.completeLong ?_ _ _ _ | split

theorem Changes.lastReport {bs : List Block} {s t : State} (c : Changes bs s t)
    (h : ([.link, .power] : List Block) ⊆ bs := by decide) : Changes bs s (t.lastReport) := by
  refine c.via h ?_
  unfold State.lastReport
  repeat' first | with_reducible exact Changes.refl _ _ | with_reducible refine Changes.standbyReply ?_ _ | with_reducible refine Changes.modPower ?_ _ | split

theorem Changes.powerReleased {bs : List Block} {s t : State} (c : Changes bs s t)
    (h : ([.power] : List Block) ⊆ bs := by decide) : Changes bs s (t.powerReleased) := by
  refine c.via h ?_
  unfold State.powerReleased
  repeat' first | with_reducible exact Changes.refl _ _ | with_reducible refine Changes.modPower ?_ _ | split

theorem Changes.measReset {bs : List Block} {s t : State} (c : Changes bs s t)
    (h : ([.meas, .boxes] : List Block) ⊆ bs := by decide) : Changes bs s (t.measReset) := by
  refine c.via h ?_
  unfold State.measReset
  repeat' first | with_reducible exact Changes.refl _ _ | with_reducible refine Changes.modMeas ?_ _ | with_reducible refine Changes.showGate ?_

theorem Changes.linkError {bs : List Block} {s t : State} (c : Changes bs s t) (x : LinkErr) (tag : Option Byte)
    (h : ([.link] : List Block) ⊆ bs := by decide) : Changes bs s (t.linkError x tag) := by
  refine c.via h ?_
  unfold State.linkError
  repeat' first | with_reducible exact Changes.refl _ _ | with_reducible refine Changes.modLink ?_ _ | with_reducible refine Changes.offer ?_ _

theorem Changes.acceptFrame {bs : List Block} {s t : State} (c : Changes bs s t) (f : Frame)
    (h : ([.link] : List Block) ⊆ bs := by decide) : Changes bs s (t.acceptFrame f) := by
  refine c.via h ?_
  unfold State.acceptFrame
  dsimp only
  repeat' first | with_reducible exact Changes.refl _ _ | with_reducible refine Changes.modLink ?_ _ | with_reducible refine Changes.linkError ?_ _ _ | split

theorem Changes.restartByteTimer {bs : List Block} {s t : State} (c : Changes bs s t)
    (h : ([.link] : List Block) ⊆ bs := by decide) : Changes bs s (t.restartByteTimer) := by
  refine c.via h ?_
  unfold State.restartByteTimer
  repeat' first | with_reducible exact Changes.refl _ _ | with_reducible refine Changes.modLink ?_ _

/-- The second component of a pair that an operation answers. -/
theorem Changes.ofPair {α : Type} {bs : List Block} {t u : State} {p : α × State} {a : α} (h : p = (a, u))
    (c : Changes bs t p.2) : Changes bs t u := by
  rw [h] at c
  exact c

theorem Changes.discardAll {bs : List Block} {s t : State} (c : Changes bs s t) (l : List Record)
    (h : ([.ring, .boxes] : List Block) ⊆ bs := by decide) : Changes bs s (t.discardAll l) := by
  refine c.via h ?_
  exact Changes.foldl (fun _ _ => (Changes.refl _ _).discardRecord _) l (Changes.refl _ _)

theorem Changes.segmentedDiscard {bs : List Block} {s t : State} (c : Changes bs s t)
    (h : ([.ring, .boxes] : List Block) ⊆ bs := by decide) : Changes bs s (t.segmentedDiscard) := by
  refine c.via h ?_
  unfold State.segmentedDiscard
  dsimp only
  repeat' first | with_reducible exact Changes.refl _ _ | with_reducible refine Changes.cancelPin ?_ | with_reducible refine Changes.discardAll ?_ _ | split

theorem Changes.segmentedStart {bs : List Block} {s t : State} (c : Changes bs s t)
    (h : ([.ring, .boxes] : List Block) ⊆ bs := by decide) : Changes bs s (t.segmentedStart) := by
  refine c.via h ?_
  unfold State.segmentedStart
  repeat' first | with_reducible exact Changes.refl _ _ | with_reducible refine Changes.segmentedDiscard ?_ | split

theorem Changes.claimSteps {bs : List Block} {s t : State} (c : Changes bs s t)
    (h : ([.ring, .boxes] : List Block) ⊆ bs := by decide) : Changes bs s (t.claimSteps).2 := by
  refine c.via h ?_
  unfold State.claimSteps
  dsimp only
  repeat' first | with_reducible exact Changes.refl _ _ | with_reducible refine Changes.modRing ?_ _ | with_reducible refine Changes.grantSlot ?_ _ | with_reducible refine Changes.discardRecord ?_ _ | split

theorem Changes.claim {bs : List Block} {s t : State} (c : Changes bs s t)
    (h : ([.ring, .boxes] : List Block) ⊆ bs := by decide) : Changes bs s (t.claim).2 := by
  refine c.via h ?_
  unfold State.claim
  dsimp only
  split
  · exact (Changes.refl _ _).geomCheck.modRing _
  · have k := (Changes.refl [.ring, .boxes] t).geomCheck.claimSteps
    split <;> exact .ofPair (by assumption) k

theorem Changes.requestPin {bs : List Block} {s t : State} (c : Changes bs s t) (n : Nat)
    (h : ([.ring] : List Block) ⊆ bs := by decide) : Changes bs s (t.requestPin n).2 := by
  refine c.via h ?_
  unfold State.requestPin
  split
  · exact (Changes.refl _ _).modRing _
  · exact Changes.refl _ _

theorem Changes.scheduleFirst {bs : List Block} {s t : State} (c : Changes bs s t)
    (h : ([.meas] : List Block) ⊆ bs := by decide) : Changes bs s (t.scheduleFirst).2 := by
  refine c.via h ?_
  unfold State.scheduleFirst
  repeat' first | with_reducible exact Changes.refl _ _ | with_reducible refine Changes.modMeas ?_ _ | with_reducible refine Changes.startEval ?_ _ _ | split

theorem Changes.measSchedule {bs : List Block} {s t : State} (c : Changes bs s t)
    (h : ([.meas, .boxes] : List Block) ⊆ bs := by decide) : Changes bs s (t.measSchedule) := by
  refine c.via h ?_
  unfold State.measSchedule
  have k := (Changes.refl [.meas, .boxes] t).scheduleFirst
  split
  · exact .ofPair (by assumption) k
  · have k1 := Changes.ofPair (by assumption) k
    dsimp only
    repeat' first | with_reducible exact k1 | with_reducible refine Changes.showGate ?_ | with_reducible refine Changes.startReEval ?_ | with_reducible refine Changes.modMeas ?_ _ | split

theorem Changes.measPoint {bs : List Block} {s t : State} (c : Changes bs s t)
    (h : ([.meas, .boxes] : List Block) ⊆ bs := by decide) : Changes bs s (t.measPoint) := by
  refine c.via h ?_
  unfold State.measPoint
  repeat' first | with_reducible exact Changes.refl _ _ | with_reducible refine Changes.measSchedule ?_ | split

theorem Changes.requestReEval {bs : List Block} {s t : State} (c : Changes bs s t)
    (h : ([.meas, .boxes] : List Block) ⊆ bs := by decide) : Changes bs s (t.requestReEval) := by
  refine c.via h ?_
  unfold State.requestReEval
  repeat' first | with_reducible exact Changes.refl _ _ | with_reducible refine Changes.modMeas ?_ _ | with_reducible refine Changes.measPoint ?_ | split

theorem Changes.measTakeCommit {bs : List Block} {s t : State} (c : Changes bs s t)
    (h : ([.meas, .boxes] : List Block) ⊆ bs := by decide) : Changes bs s (t.measTakeCommit) := by
  refine c.via h ?_
  unfold State.measTakeCommit
  repeat' first | with_reducible exact Changes.refl _ _ | with_reducible refine Changes.modBoxes ?_ _ | with_reducible refine Changes.measPoint ?_ | split

theorem Changes.measTakeSetup {bs : List Block} {s t : State} (c : Changes bs s t) (a : SetupAnn)
    (h : ([.meas, .boxes] : List Block) ⊆ bs := by decide) : Changes bs s (t.measTakeSetup a) := by
  refine c.via h ?_
  unfold State.measTakeSetup
  dsimp only
  repeat' first | with_reducible exact Changes.refl _ _ | with_reducible refine Changes.modMeas ?_ _ | with_reducible refine Changes.requestReEval ?_ | split

theorem Changes.measTakeRing {bs : List Block} {s t : State} (c : Changes bs s t) (a : RingAnn)
    (h : ([.meas, .boxes] : List Block) ⊆ bs := by decide) : Changes bs s (t.measTakeRing a) := by
  refine c.via h ?_
  unfold State.measTakeRing
  repeat' first | with_reducible exact Changes.refl _ _ | with_reducible refine Changes.modMeas ?_ _ | with_reducible refine Changes.showGate ?_ | with_reducible refine Changes.measPoint ?_ | split

theorem Changes.tone {bs : List Block} {s t : State} (c : Changes bs s t) (r f d : Nat)
    (h : ([.panel] : List Block) ⊆ bs := by decide) : Changes bs s (t.tone r f d).2 := by
  refine c.via h ?_
  unfold State.tone
  dsimp only
  repeat' first | with_reducible exact Changes.refl _ _ | with_reducible refine Changes.modPanel ?_ _ | split

theorem Changes.applyVerdict {bs : List Block} {s t : State} (c : Changes bs s t) (e : Eval) (rs : Vector SlotResult 6)
    (h : ([.meas, .link, .panel] : List Block) ⊆ bs := by decide) : Changes bs s (t.applyVerdict e rs) := by
  refine c.via h ?_
  unfold State.applyVerdict
  dsimp only
  repeat' first | with_reducible exact Changes.refl _ _ | with_reducible refine Changes.modMeas ?_ _ | with_reducible refine Changes.offer ?_ _ | with_reducible refine Changes.tone ?_ _ _ _ | split

theorem Changes.completeEval {bs : List Block} {s t : State} (c : Changes bs s t) (e : Eval)
    (h : ([.meas, .boxes, .link, .panel] : List Block) ⊆ bs := by decide) : Changes bs s (t.completeEval e) := by
  refine c.via h ?_
  unfold State.completeEval
  dsimp only
  repeat' first | with_reducible exact Changes.refl _ _ | with_reducible refine Changes.modMeas ?_ _ | with_reducible refine Changes.writeResults ?_ _ _ | with_reducible refine Changes.countResults ?_ _ _ | with_reducible refine Changes.applyVerdict ?_ _ _ | with_reducible refine Changes.applyFailStop ?_ _ | with_reducible refine Changes.showGate ?_ | with_reducible refine Changes.offerResult ?_ _ | with_reducible refine Changes.measSchedule ?_ | split

theorem Changes.tryRaster {bs : List Block} {s t : State} (c : Changes bs s t) (n : Nat) (k : RasterKind)
    (h : ([.disp, .ring] : List Block) ⊆ bs := by decide) : Changes bs s (t.tryRaster n k).2 := by
  refine c.via h ?_
  unfold State.tryRaster
  have p := (Changes.refl [.disp, .ring] t).requestPin n
  split
  · exact (Changes.ofPair (by assumption) p).startRaster _ _
  · exact Changes.refl _ _

theorem Changes.scheduleLive {bs : List Block} {s t : State} (c : Changes bs s t)
    (h : ([.disp, .ring] : List Block) ⊆ bs := by decide) : Changes bs s (t.scheduleLive).2 := by
  refine c.via h ?_
  unfold State.scheduleLive
  dsimp only
  split
  · split
    · have p (x : Record) (f : Display → Display) := ((Changes.refl [.disp, .ring] t).modDisp f).tryRaster x.number .live
      split
      · exact .ofPair (by assumption) (p _ _)
      · exact (Changes.ofPair (by assumption) (p _ _)).modDisp _
    · exact Changes.refl _ _
  · exact Changes.refl _ _

theorem Changes.tryRedraw {bs : List Block} {s t : State} (c : Changes bs s t)
    (h : ([.disp, .ring] : List Block) ⊆ bs := by decide) : Changes bs s (t.tryRedraw) := by
  refine c.via h ?_
  unfold State.tryRedraw
  dsimp only
  split
  · exact (Changes.refl _ _).clearPlanes.modDisp _
  · have p (n : Nat) := (Changes.refl [.disp, .ring] t).tryRaster n .redraw
    split
    · exact .ofPair (by assumption) (p _)
    · exact (Changes.refl _ _).clearPlanes.modDisp _

theorem Changes.dispSchedule {bs : List Block} {s t : State} (c : Changes bs s t)
    (h : ([.disp, .ring] : List Block) ⊆ bs := by decide) : Changes bs s (t.dispSchedule) := by
  refine c.via h ?_
  unfold State.dispSchedule
  have k := (Changes.refl [.disp, .ring] t).scheduleLive
  split
  · exact .ofPair (by assumption) k
  · have k1 := Changes.ofPair (by assumption) k
    dsimp only
    repeat' first | with_reducible exact k1 | with_reducible refine Changes.tryRedraw ?_ | with_reducible refine Changes.modDisp ?_ _ | with_reducible refine Changes.passGone ?_ | split

theorem Changes.dispPoint {bs : List Block} {s t : State} (c : Changes bs s t)
    (h : ([.disp, .ring] : List Block) ⊆ bs := by decide) : Changes bs s (t.dispPoint) := by
  refine c.via h ?_
  unfold State.dispPoint
  repeat' first | with_reducible exact Changes.refl _ _ | with_reducible refine Changes.dispSchedule ?_ | split

theorem Changes.requestRedraw {bs : List Block} {s t : State} (c : Changes bs s t)
    (h : ([.disp, .ring] : List Block) ⊆ bs := by decide) : Changes bs s (t.requestRedraw) := by
  refine c.via h ?_
  unfold State.requestRedraw
  repeat' first | with_reducible exact Changes.refl _ _ | with_reducible refine Changes.modDisp ?_ _ | with_reducible refine Changes.dispPoint ?_

theorem Changes.dispTakeCommit {bs : List Block} {s t : State} (c : Changes bs s t)
    (h : ([.disp, .ring, .boxes] : List Block) ⊆ bs := by decide) : Changes bs s (t.dispTakeCommit) := by
  refine c.via h ?_
  unfold State.dispTakeCommit
  repeat' first | with_reducible exact Changes.refl _ _ | with_reducible refine Changes.modBoxes ?_ _ | with_reducible refine Changes.dispPoint ?_ | split

theorem Changes.compare {bs : List Block} {s t : State} (c : Changes bs s t) (raw : Vector RawCode 4) (x : Bool)
    (h : ([.acq, .disp, .meas, .boxes] : List Block) ⊆ bs := by decide) : Changes bs s (t.compare raw x) := by
  refine c.via h ?_
  have f (u : State) (y : Bool) := (Changes.refl [.acq, .disp, .meas, .boxes] u).crossing y
  unfold State.compare
  dsimp only
  repeat' first | with_reducible exact Changes.refl _ _ | with_reducible refine Changes.foldl f _ ?_ | with_reducible refine Changes.modAcq ?_ _ | split

theorem Changes.decimate {bs : List Block} {s t : State} (c : Changes bs s t) (raw : Vector RawCode 4)
    (h : ([.acq] : List Block) ⊆ bs := by decide) : Changes bs s (t.decimate raw) := by
  refine c.via h ?_
  unfold State.decimate
  dsimp only
  repeat' first | with_reducible exact Changes.refl _ _ | with_reducible refine Changes.hitSample ?_ _ | with_reducible refine Changes.setCap ?_ _ | split

theorem Changes.takeSlot {bs : List Block} {s t : State} (c : Changes bs s t) (i : Nat)
    (h : ([.acq, .boxes, .ring] : List Block) ⊆ bs := by decide) : Changes bs s (t.takeSlot i) := by
  refine c.via h ?_
  unfold State.takeSlot
  split
  · rename_i hw
    rw [State.granted_running t i (by rw [hw]; decide)]
    exact (Changes.refl _ t).modAcq (fun _ => _)
  · exact (Changes.refl _ _).freeSlot _

theorem Changes.takeOffer {bs : List Block} {s t : State} (c : Changes bs s t)
    (h : ([.acq, .boxes, .ring] : List Block) ⊆ bs := by decide) : Changes bs s (t.takeOffer) := by
  refine c.via h ?_
  unfold State.takeOffer
  repeat' first | with_reducible exact Changes.refl _ _ | with_reducible refine Changes.takeSlot ?_ _ | with_reducible refine Changes.modBoxes ?_ _ | split

theorem Changes.startCapture {bs : List Block} {s t : State} (c : Changes bs s t)
    (h : ([.acq, .disp, .meas, .boxes, .ring] : List Block) ⊆ bs := by decide) : Changes bs s (t.startCapture) := by
  refine c.via h ?_
  unfold State.startCapture
  split
  · have k := (Changes.refl [.acq, .disp, .meas, .boxes, .ring] t).claim
    split
    · exact (Changes.ofPair (by assumption) k).granted _
    · exact (Changes.ofPair (by assumption) k).setAcqSt _
    · exact (Changes.ofPair (by assumption) k).setAcqSt _
  · exact (Changes.refl _ _).setAcqSt _

theorem Changes.endWork {bs : List Block} {s t : State} (c : Changes bs s t) (k : DiscardKind)
    (h : ([.acq, .ring, .boxes] : List Block) ⊆ bs := by decide) : Changes bs s (t.endWork k) := by
  refine c.via h ?_
  unfold State.endWork
  dsimp only
  repeat' first | with_reducible exact Changes.refl _ _ | with_reducible refine Changes.modAcq ?_ _ | with_reducible refine Changes.reloadIfDeferred ?_ | with_reducible refine Changes.freeSlot ?_ _ | with_reducible refine Changes.withdrawClaim ?_ | split

theorem Changes.stopAcq {bs : List Block} {s t : State} (c : Changes bs s t) (k : DiscardKind) (x : AcqCause)
    (h : ([.acq, .disp, .meas, .boxes, .ring, .link] : List Block) ⊆ bs := by decide) : Changes bs s (t.stopAcq k x) := by
  refine c.via h ?_
  unfold State.stopAcq
  repeat' first | with_reducible exact Changes.refl _ _ | with_reducible refine Changes.endWork ?_ _ | with_reducible refine Changes.setAcqSt ?_ _ | with_reducible refine Changes.offerAcq ?_ _ | split

theorem Changes.restart {bs : List Block} {s t : State} (c : Changes bs s t)
    (h : ([.acq, .disp, .meas, .boxes, .ring] : List Block) ⊆ bs := by decide) : Changes bs s (t.restart) := by
  refine c.via h ?_
  unfold State.restart
  repeat' first | with_reducible exact Changes.refl _ _ | with_reducible refine Changes.endWork ?_ _ | with_reducible refine Changes.startCapture ?_

theorem Changes.runAs {bs : List Block} {s t : State} (c : Changes bs s t) (m : RunMode) (x : AcqCause)
    (h : ([.acq, .disp, .meas, .boxes, .ring, .link] : List Block) ⊆ bs := by decide) : Changes bs s (t.runAs m x) := by
  refine c.via h ?_
  unfold State.runAs
  dsimp only
  repeat' first | with_reducible exact Changes.refl _ _ | with_reducible refine Changes.modAcq ?_ _ | with_reducible refine Changes.segmentedStart ?_ | with_reducible refine Changes.startCapture ?_ | with_reducible refine Changes.offerAcq ?_ _ | split

theorem Changes.force {bs : List Block} {s t : State} (c : Changes bs s t)
    (h : ([.acq, .disp, .meas, .boxes] : List Block) ⊆ bs := by decide) : Changes bs s (t.force).2 := by
  refine c.via h ?_
  unfold State.force
  repeat' first | with_reducible exact Changes.refl _ _ | with_reducible refine Changes.modAcq ?_ _ | with_reducible refine Changes.acceptTrigger ?_ _ _ _ | split

theorem Changes.continueAcq {bs : List Block} {s t : State} (c : Changes bs s t)
    (h : ([.acq, .disp, .meas, .boxes, .ring, .link] : List Block) ⊆ bs := by decide) : Changes bs s (t.continueAcq) := by
  refine c.via h ?_
  unfold State.continueAcq
  repeat' first | with_reducible exact Changes.refl _ _ | with_reducible refine Changes.setAcqSt ?_ _ | with_reducible refine Changes.offerAcq ?_ _ | with_reducible refine Changes.startCapture ?_ | split

theorem Changes.takeEarly {bs : List Block} {s t : State} (c : Changes bs s t) (m d : Bool)
    (h : ([.disp, .meas, .boxes, .ring] : List Block) ⊆ bs := by decide) : Changes bs s (t.takeEarly m d) := by
  refine c.via h ?_
  unfold State.takeEarly
  dsimp only
  repeat' first | with_reducible exact Changes.refl _ _ | with_reducible refine Changes.measTakeCommit ?_ | with_reducible refine Changes.dispTakeCommit ?_ | split

theorem Changes.commitCapture {bs : List Block} {s t : State} (c : Changes bs s t) (k : Capture) (m d : Bool)
    (h : ([.acq, .disp, .meas, .boxes, .ring, .link] : List Block) ⊆ bs := by decide) : Changes bs s (t.commitCapture k m d) := by
  refine c.via h ?_
  unfold State.commitCapture
  repeat' first | with_reducible exact Changes.refl _ _ | with_reducible refine Changes.modAcq ?_ _ | with_reducible refine Changes.commitRecord ?_ _ | with_reducible refine Changes.takeEarly ?_ _ _ | with_reducible refine Changes.continueAcq ?_

theorem Changes.trigChange {bs : List Block} {s t : State} (c : Changes bs s t)
    (h : ([.acq, .disp, .meas, .boxes] : List Block) ⊆ bs := by decide) : Changes bs s (t.trigChange) := by
  refine c.via h ?_
  unfold State.trigChange
  repeat' first | with_reducible exact Changes.refl _ _ | with_reducible refine Changes.modAcq ?_ _ | with_reducible refine Changes.reload ?_ | with_reducible refine Changes.setCap ?_ _ | with_reducible refine Changes.testArmed ?_ | split

theorem Changes.classChange {bs : List Block} {s t : State} (c : Changes bs s t) (a : SetupAnn)
    (h : ([.acq, .disp, .meas, .boxes, .ring] : List Block) ⊆ bs := by decide) : Changes bs s (t.classChange a) := by
  refine c.via h ?_
  unfold State.classChange
  dsimp only
  repeat' first | with_reducible exact Changes.refl _ _ | with_reducible refine Changes.segmentedDiscard ?_ | with_reducible refine Changes.startCapture ?_ | with_reducible refine Changes.endWork ?_ _ | split

theorem Changes.acqApply {bs : List Block} {s t : State} (c : Changes bs s t) (a : SetupAnn)
    (h : ([.acq, .disp, .meas, .boxes, .ring] : List Block) ⊆ bs := by decide) : Changes bs s (t.acqApply a) := by
  refine c.via h ?_
  unfold State.acqApply
  dsimp only
  repeat' first | with_reducible exact Changes.refl _ _ | with_reducible refine Changes.trigChange ?_ | with_reducible refine Changes.classChange ?_ _ | split

theorem Changes.acqTake {bs : List Block} {s t : State} (c : Changes bs s t) (p : SetupAnn → Bool)
    (h : ([.acq, .disp, .meas, .boxes, .ring] : List Block) ⊆ bs := by decide) : Changes bs s (t.acqTake p) := by
  refine c.via h ?_
  unfold State.acqTake
  repeat' first | with_reducible exact Changes.refl _ _ | with_reducible refine Changes.modBoxes ?_ _ | with_reducible refine Changes.acqApply ?_ _ | split

theorem Changes.settlingBegan {bs : List Block} {s t : State} (c : Changes bs s t)
    (h : ([.acq, .disp, .meas, .boxes, .ring] : List Block) ⊆ bs := by decide) : Changes bs s (t.settlingBegan) := by
  refine c.via h ?_
  unfold State.settlingBegan
  repeat' first | with_reducible exact Changes.refl _ _ | with_reducible refine Changes.endWork ?_ _ | with_reducible refine Changes.setAcqSt ?_ _ | with_reducible refine Changes.restart ?_ | split

theorem Changes.faultTaken {bs : List Block} {s t : State} (c : Changes bs s t)
    (h : ([.acq, .disp, .meas, .boxes, .ring, .link] : List Block) ⊆ bs := by decide) : Changes bs s (t.faultTaken) := by
  refine c.via h ?_
  unfold State.faultTaken
  dsimp only
  repeat' first | with_reducible exact Changes.refl _ _ | with_reducible refine Changes.modAcq ?_ _ | with_reducible refine Changes.offerAcq ?_ _ | with_reducible refine Changes.stopAcq ?_ _ _ | split

theorem Changes.acqOnEntry {bs : List Block} {s t : State} (c : Changes bs s t)
    (h : ([.clock, .acq] : List Block) ⊆ bs := by decide) : Changes bs s (t.acqOnEntry) := by
  refine c.via h ?_
  unfold State.acqOnEntry
  repeat' first | with_reducible exact Changes.refl _ _ | with_reducible refine Changes.zeroTimeBase ?_ | with_reducible refine Changes.modAcq ?_ _ | with_reducible refine Changes.reload ?_

theorem Changes.acqStandby {bs : List Block} {s t : State} (c : Changes bs s t)
    (h : ([.acq, .disp, .meas, .boxes, .ring, .link] : List Block) ⊆ bs := by decide) : Changes bs s (t.acqStandby) := by
  refine c.via h ?_
  unfold State.acqStandby
  repeat' first | with_reducible exact Changes.refl _ _ | with_reducible refine Changes.stopAcq ?_ _ _ | with_reducible refine Changes.modAcq ?_ _

theorem Changes.acqReset {bs : List Block} {s t : State} (c : Changes bs s t)
    (h : ([.clock, .acq, .disp, .meas, .boxes, .ring, .link] : List Block) ⊆ bs := by decide) : Changes bs s (t.acqReset) := by
  refine c.via h ?_
  unfold State.acqReset
  dsimp only
  repeat' first | with_reducible exact Changes.refl _ _ | with_reducible refine Changes.endWork ?_ _ | with_reducible refine Changes.setAcqSt ?_ _ | with_reducible refine Changes.zeroTimeBase ?_ | with_reducible refine Changes.modAcq ?_ _ | with_reducible refine Changes.reload ?_ | with_reducible refine Changes.segmentedStart ?_ | with_reducible refine Changes.startCapture ?_ | with_reducible refine Changes.offerAcq ?_ _ | split

theorem Changes.offerSlot {bs : List Block} {s t : State} (c : Changes bs s t) (i : Nat)
    (h : ([.boxes] : List Block) ⊆ bs := by decide) : Changes bs s (t.offerSlot i) := by
  refine c.via h ?_
  unfold State.offerSlot
  repeat' first | with_reducible exact Changes.refl _ _ | with_reducible refine Changes.modBoxes ?_ _

theorem Changes.serveWaiting {bs : List Block} {s t : State} (c : Changes bs s t) (w : Bool)
    (h : ([.acq, .boxes, .ring] : List Block) ⊆ bs := by decide) : Changes bs s (t.serveWaiting w) := by
  refine c.via h ?_
  unfold State.serveWaiting
  split
  · have k := (Changes.refl [.acq, .boxes, .ring] t).claimSteps
    split
    · split
      · exact (Changes.ofPair (by assumption) k).offerSlot _
      · exact (Changes.ofPair (by assumption) k).takeSlot _
    · exact .ofPair (by assumption) k
  · exact Changes.refl _ _

theorem Changes.endPin {bs : List Block} {s t : State} (c : Changes bs s t) (n : Nat)
    (h : ([.acq, .boxes, .ring] : List Block) ⊆ bs := by decide) : Changes bs s (t.endPin n) := by
  refine c.via h ?_
  unfold State.endPin
  repeat' first | with_reducible exact Changes.refl _ _ | with_reducible refine Changes.modRing ?_ _ | with_reducible refine Changes.serveWaiting ?_ _ | split

theorem Changes.afterRelease {bs : List Block} {s t : State} (c : Changes bs s t) (n : Nat) (w : Bool)
    (h : ([.acq, .boxes, .ring] : List Block) ⊆ bs := by decide) : Changes bs s (t.afterRelease n w) := by
  refine c.via h ?_
  unfold State.afterRelease
  dsimp only
  repeat' first | with_reducible exact Changes.refl _ _ | with_reducible refine Changes.serveWaiting ?_ _ | with_reducible refine Changes.geomCheck ?_ | split

theorem Changes.clearRing {bs : List Block} {s t : State} (c : Changes bs s t)
    (h : ([.acq, .meas, .boxes, .ring] : List Block) ⊆ bs := by decide) : Changes bs s (t.clearRing) := by
  refine c.via h ?_
  unfold State.clearRing
  dsimp only
  repeat' first | with_reducible exact Changes.refl _ _ | with_reducible refine Changes.discardAll ?_ _ | with_reducible refine Changes.modRing ?_ _ | with_reducible refine Changes.announceRing ?_ _ | with_reducible refine Changes.showGate ?_ | with_reducible refine Changes.serveWaiting ?_ _ | split

theorem Changes.rasterEnds {bs : List Block} {s t : State} (c : Changes bs s t) (p : Vector Memory 4) (n : Nat)
    (h : ([.disp, .acq, .boxes, .ring] : List Block) ⊆ bs := by decide) : Changes bs s (t.rasterEnds p n) := by
  refine c.via h ?_
  unfold State.rasterEnds
  repeat' first | with_reducible exact Changes.refl _ _ | with_reducible refine Changes.modDisp ?_ _ | with_reducible refine Changes.endPin ?_ _ | with_reducible refine Changes.applyDecays ?_

theorem Changes.rasterDone {bs : List Block} {s t : State} (c : Changes bs s t) (r : Raster)
    (h : ([.disp, .acq, .boxes, .ring] : List Block) ⊆ bs := by decide) : Changes bs s (t.rasterDone r) := by
  refine c.via h ?_
  unfold State.rasterDone
  repeat' first | with_reducible exact Changes.refl _ _ | with_reducible refine Changes.rasterEnds ?_ _ _ | with_reducible refine Changes.dispSchedule ?_

theorem Changes.abandon {bs : List Block} {s t : State} (c : Changes bs s t)
    (h : ([.disp, .acq, .boxes, .ring, .freeCtr] : List Block) ⊆ bs := by decide) : Changes bs s (t.abandon) := by
  refine c.via h ?_
  unfold State.abandon
  repeat' first | with_reducible exact Changes.refl _ _ | with_reducible refine Changes.modFree ?_ _ | with_reducible refine Changes.rasterEnds ?_ _ _ | split

theorem Changes.abandonThen {bs : List Block} {s t : State} (c : Changes bs s t) {f : State → State}
    (hf : ∀ u, Changes [.disp] u (f u)) (h : ([.disp, .acq, .boxes, .ring, .freeCtr] : List Block) ⊆ bs := by decide) :
    Changes bs s (t.abandonThen f) := by
  refine c.via h ?_
  unfold State.abandonThen
  have k : Changes [.disp, .acq, .boxes, .ring, .freeCtr] t (f t.abandon) :=
    (Changes.refl _ _).abandon.via (by decide) (hf _)
  dsimp only
  split
  · exact k.dispSchedule
  · exact k

theorem Changes.dispApply {bs : List Block} {s t : State} (c : Changes bs s t) (a : SetupAnn)
    (h : ([.disp, .acq, .boxes, .ring, .freeCtr] : List Block) ⊆ bs := by decide) : Changes bs s (t.dispApply a) := by
  refine c.via h ?_
  unfold State.dispApply
  repeat' first | with_reducible exact Changes.refl _ _ | with_reducible refine Changes.requestRedraw ?_ | (with_reducible refine Changes.abandonThen ?_ (fun u => ?_)) | with_reducible refine Changes.clearPlanes ?_ | split

theorem Changes.dispRingApply {bs : List Block} {s t : State} (c : Changes bs s t) (a : RingAnn)
    (h : ([.disp, .acq, .boxes, .ring, .freeCtr] : List Block) ⊆ bs := by decide) : Changes bs s (t.dispRingApply a) := by
  refine c.via h ?_
  unfold State.dispRingApply
  have idc (u : State) : Changes [.disp] u (id u) := Changes.refl _ _
  repeat' first | with_reducible exact Changes.refl _ _ | with_reducible exact idc _ | with_reducible refine Changes.dispPoint ?_ | (with_reducible refine Changes.abandonThen ?_ (fun u => ?_)) | with_reducible refine Changes.modDisp ?_ _ | with_reducible refine Changes.clearPlanes ?_ | split

theorem Changes.dispReset {bs : List Block} {s t : State} (c : Changes bs s t) (x : Bool)
    (h : ([.disp, .acq, .boxes, .ring] : List Block) ⊆ bs := by decide) : Changes bs s (t.dispReset x) := by
  refine c.via h ?_
  unfold State.dispReset
  dsimp only
  repeat' first | with_reducible exact Changes.refl _ _ | with_reducible refine Changes.modDisp ?_ _ | with_reducible refine Changes.endPin ?_ _ | split

theorem Changes.enableFe {bs : List Block} {s t : State} (c : Changes bs s t)
    (h : ([.fe, .boxes] : List Block) ⊆ bs := by decide) : Changes bs s (t.enableFe).2 := by
  refine c.via h ?_
  unfold State.enableFe
  dsimp only
  repeat' first | with_reducible exact Changes.refl _ _ | with_reducible refine Changes.feUp ?_ | with_reducible refine Changes.latch ?_ _ | with_reducible refine Changes.modFe ?_ _ | split

theorem Changes.keyClick {bs : List Block} {s t : State} (c : Changes bs s t)
    (h : ([.panel] : List Block) ⊆ bs := by decide) : Changes bs s (t.keyClick) := by
  refine c.via h ?_
  unfold State.keyClick
  repeat' first | with_reducible exact Changes.refl _ _ | with_reducible refine Changes.tone ?_ _ _ _ | split

theorem Changes.fireAction {bs : List Block} {s t : State} (c : Changes bs s t) (a : KeyAction)
    (h : ([.setup, .meas, .fe, .boxes, .link, .acq, .disp, .ring] : List Block) ⊆ bs := by decide) : Changes bs s (t.fireAction a) := by
  refine c.via h ?_
  unfold State.fireAction
  repeat' first | with_reducible exact Changes.refl _ _ | with_reducible refine Changes.runAs ?_ _ _ | with_reducible refine Changes.stopAcq ?_ _ _ | with_reducible refine Changes.force ?_ | with_reducible refine Changes.applyDefaults ?_ | with_reducible refine Changes.applyUndo ?_ | with_reducible refine Changes.keyChange ?_ _ _ | split

theorem Changes.keyPressed {bs : List Block} {s t : State} (c : Changes bs s t) (p : Fin 64) (x : Nat) (a : KeyAction)
    (h : ([.setup, .meas, .fe, .boxes, .link, .panel, .acq, .disp, .ring] : List Block) ⊆ bs := by decide) : Changes bs s (t.keyPressed p x a) := by
  refine c.via h ?_
  unfold State.keyPressed
  dsimp only
  repeat' first | with_reducible exact Changes.refl _ _ | with_reducible refine Changes.queueKey ?_ _ _ _ | with_reducible refine Changes.fireAction ?_ _ | with_reducible refine Changes.keyClick ?_ | split

theorem Changes.endClick {bs : List Block} {s t : State} (c : Changes bs s t)
    (h : ([.panel] : List Block) ⊆ bs := by decide) : Changes bs s (t.endClick) := by
  refine c.via h ?_
  unfold State.endClick
  repeat' first | with_reducible exact Changes.refl _ _ | with_reducible refine Changes.tone ?_ _ _ _

theorem Changes.knobChange {bs : List Block} {s t : State} (c : Changes bs s t) (e : Fin 12) (i : Fin 87) (b : Binding) (n : Int)
    (h : ([.setup, .meas, .fe, .boxes, .link, .panel] : List Block) ⊆ bs := by decide) : Changes bs s (t.knobChange e i b n) := by
  refine c.via h ?_
  unfold State.knobChange
  dsimp only
  repeat' first | with_reducible exact Changes.refl _ _ | with_reducible refine Changes.endClick ?_ | with_reducible refine Changes.applyField ?_ _ _ _ _ | split

theorem Changes.windowApplied {bs : List Block} {s t : State} (c : Changes bs s t) (e : Fin 12) (n : Int)
    (h : ([.setup, .meas, .fe, .boxes, .link, .panel] : List Block) ⊆ bs := by decide) : Changes bs s (t.windowApplied e n) := by
  refine c.via h ?_
  unfold State.windowApplied
  repeat' first | with_reducible exact Changes.refl _ _ | with_reducible refine Changes.knobChange ?_ _ _ _ _ | with_reducible refine Changes.offer ?_ _ | split

theorem Changes.enterPoweringUp {bs : List Block} {s t : State} (c : Changes bs s t) (x : StartCause)
    (h : ([.power, .store, .link, .panel, .disp, .fe, .boxes] : List Block) ⊆ bs := by decide) : Changes bs s (t.enterPoweringUp x) := by
  refine c.via h ?_
  unfold State.enterPoweringUp
  dsimp only
  split
  · exact (Changes.ofPair (by assumption) ((((((Changes.refl _ _).modPower _).modStore _).modLink _).modPanel _).startBlink.modDisp _).enableFe).feReport
  · exact Changes.ofPair (by assumption) ((((((Changes.refl _ _).modPower _).modStore _).modLink _).modPanel _).startBlink.modDisp _).enableFe

theorem Changes.powerStart {bs : List Block} {s t : State} (c : Changes bs s t) (m : RunMode)
    (h : ([.acq, .disp, .meas, .boxes, .ring, .link] : List Block) ⊆ bs := by decide) : Changes bs s (t.powerStart m) := by
  refine c.via h ?_
  unfold State.powerStart
  repeat' first | with_reducible exact Changes.refl _ _ | with_reducible refine Changes.runAs ?_ _ _ | split

theorem Changes.enterOn {bs : List Block} {s t : State} (c : Changes bs s t)
    (h : ([.power, .panel, .clock, .acq, .disp, .meas, .boxes, .ring, .link] : List Block) ⊆ bs := by decide) : Changes bs s (t.enterOn) := by
  refine c.via h ?_
  unfold State.enterOn
  repeat' first | with_reducible exact Changes.refl _ _ | with_reducible refine Changes.modPower ?_ _ | with_reducible refine Changes.endBlink ?_ | with_reducible refine Changes.acqOnEntry ?_ | with_reducible refine Changes.powerStart ?_ _

theorem Changes.loadReport {bs : List Block} {s t : State} (c : Changes bs s t)
    (h : ([.power, .panel, .clock, .acq, .disp, .meas, .boxes, .ring, .link] : List Block) ⊆ bs := by decide) : Changes bs s (t.loadReport) := by
  refine c.via h ?_
  unfold State.loadReport
  repeat' first | with_reducible exact Changes.refl _ _ | with_reducible refine Changes.enterOn ?_ | split

theorem Changes.beginShutdown {bs : List Block} {s t : State} (c : Changes bs s t)
    (h : ([.power, .panel, .store, .acq, .disp, .meas, .boxes, .ring, .link] : List Block) ⊆ bs := by decide) : Changes bs s (t.beginShutdown) := by
  refine c.via h ?_
  unfold State.beginShutdown
  dsimp only
  repeat' first | with_reducible exact Changes.refl _ _ | with_reducible refine Changes.modPower ?_ _ | with_reducible refine Changes.startBlink ?_ | with_reducible refine Changes.stopAcq ?_ _ _ | with_reducible refine Changes.requestLast ?_

theorem Changes.abandonShutdown {bs : List Block} {s t : State} (c : Changes bs s t)
    (h : ([.power, .panel, .store, .acq, .disp, .meas, .boxes, .ring, .link] : List Block) ⊆ bs := by decide) : Changes bs s (t.abandonShutdown) := by
  refine c.via h ?_
  unfold State.abandonShutdown
  dsimp only
  repeat' first | with_reducible exact Changes.refl _ _ | with_reducible refine Changes.modStore ?_ _ | with_reducible refine Changes.standbyReply ?_ _ | with_reducible refine Changes.modPower ?_ _ | with_reducible refine Changes.endBlink ?_ | with_reducible refine Changes.powerStart ?_ _ | split

theorem Changes.powerPressed {bs : List Block} {s t : State} (c : Changes bs s t) (x : Nat)
    (h : ([.power, .panel, .store, .fe, .acq, .disp, .meas, .boxes, .ring, .link] : List Block) ⊆ bs := by decide) : Changes bs s (t.powerPressed x) := by
  refine c.via h ?_
  unfold State.powerPressed
  repeat' first | with_reducible exact Changes.refl _ _ | with_reducible refine Changes.modPower ?_ _ | with_reducible refine Changes.enterPoweringUp ?_ _ | with_reducible refine Changes.offer ?_ _ | with_reducible refine Changes.abandonShutdown ?_ | split

theorem Changes.dropBoxes {bs : List Block} {s t : State} (c : Changes bs s t)
    (h : ([.ring, .boxes] : List Block) ⊆ bs := by decide) : Changes bs s (t.dropBoxes) := by
  refine c.via h ?_
  unfold State.dropBoxes
  repeat' first | with_reducible exact Changes.refl _ _ | with_reducible refine Changes.modRing ?_ _ | with_reducible refine Changes.modBoxes ?_ _

theorem Changes.standbyEntry {bs : List Block} {s t : State} (c : Changes bs s t)
    (h : ([.power, .panel, .fe, .setup, .ov, .acq, .disp, .meas, .boxes, .ring, .link] : List Block) ⊆ bs := by decide) : Changes bs s (t.standbyEntry) := by
  refine c.via h ?_
  unfold State.standbyEntry
  dsimp only
  repeat' first | with_reducible exact Changes.refl _ _ | with_reducible refine Changes.dropBoxes ?_ | with_reducible refine Changes.modPower ?_ _ | with_reducible refine Changes.modLink ?_ _ | with_reducible refine Changes.modSetup ?_ _ | with_reducible refine Changes.modPanel ?_ _ | with_reducible refine Changes.feStandby ?_ | with_reducible refine Changes.acqStandby ?_ | with_reducible refine Changes.resetRing ?_ | with_reducible refine Changes.dispReset ?_ _ | with_reducible refine Changes.modOv ?_ _ | with_reducible refine Changes.measReset ?_

theorem Changes.forcedStandby {bs : List Block} {s t : State} (c : Changes bs s t)
    (h : ([.power, .panel, .fe, .setup, .ov, .acq, .disp, .meas, .boxes, .ring, .link] : List Block) ⊆ bs := by decide) : Changes bs s (t.forcedStandby) := by
  refine c.via h ?_
  unfold State.forcedStandby
  repeat' first | with_reducible exact Changes.refl _ _ | with_reducible refine Changes.stopAcq ?_ _ _ | with_reducible refine Changes.modPower ?_ _ | with_reducible refine Changes.standbyEntry ?_

theorem Changes.supplyReset {bs : List Block} {s t : State} (c : Changes bs s t) (p : Straps)
    (h : ([.clock, .pins, .setup, .panel, .fe, .acq, .ring, .meas, .disp, .ov, .store, .power, .link, .boxes] : List Block) ⊆ bs := by decide) : Changes bs s (t.supplyReset p) := by
  refine c.via h ?_
  unfold State.supplyReset
  dsimp only
  have k (pn : Panel) (st : Store) (pi : Pins) : Changes [.clock, .pins, .setup, .panel, .fe, .acq, .ring, .meas, .disp, .ov, .store, .power, .link, .boxes] t
      { State.reset with pending := t.pending, pins := pi, panel := pn, store := st, freeCtr := t.freeCtr } := by
    intro b hb
    cases b <;> first | rfl | simp at hb
  split
  · exact (k _ _ _).enterPoweringUp _
  · exact k _ _ _

theorem Changes.resetSre {bs : List Block} {s t : State} (c : Changes bs s t) (o : BlockOrder)
    (h : ([.clock, .setup, .fe, .acq, .disp, .meas, .boxes, .ring, .link] : List Block) ⊆ bs := by decide) : Changes bs s (t.resetSre o) := by
  refine c.via h ?_
  unfold State.resetSre
  dsimp only
  repeat' first | with_reducible exact Changes.refl _ _ | with_reducible refine Changes.replaceSetup ?_ _ _ _ | with_reducible refine Changes.resetRing ?_ | with_reducible refine Changes.acqReset ?_ | split

theorem Changes.resetAll {bs : List Block} {s t : State} (c : Changes bs s t) (tag : Byte) (o : ResetOrder)
    (h : ([.clock, .setup, .fe, .panel, .ov, .store, .power, .acq, .disp, .meas, .boxes, .ring, .link] : List Block) ⊆ bs := by decide) : Changes bs s (t.resetAll tag o) := by
  refine c.via h ?_
  unfold State.resetAll
  dsimp only
  repeat' first | with_reducible exact Changes.refl _ _ | with_reducible refine Changes.modLink ?_ _ | with_reducible refine Changes.pushReply ?_ _ | with_reducible refine Changes.modPanel ?_ _ | with_reducible refine Changes.modOv ?_ _ | with_reducible refine Changes.modStore ?_ _ | with_reducible refine Changes.modPower ?_ _ | with_reducible refine Changes.resetSre ?_ _ | with_reducible refine Changes.dispReset ?_ _ | with_reducible refine Changes.measReset ?_ | with_reducible refine Changes.loadHandover ?_ | split

theorem Changes.rxFeed {bs : List Block} {s : State} (h : ([.link] : List Block) ⊆ bs := by decide) :
    ∀ (n : Nat) (l : List Byte) {t : State}, Changes bs s t → Changes bs s (State.rxFeed n l t) := by
  intro n
  induction n with
  | zero => intro l t c; exact c
  | succ n ih =>
    intro l t c
    cases l with
    | nil => exact c
    | cons b rest =>
      unfold State.rxFeed
      repeat' first | with_reducible exact c | (with_reducible refine ih _ ?_) | with_reducible refine Changes.modLink ?_ _ h | with_reducible refine Changes.acceptFrame ?_ _ h | with_reducible refine Changes.linkError ?_ _ _ h | split

theorem Changes.receive {bs : List Block} {s t : State} (c : Changes bs s t) (b : Byte)
    (h : ([.link] : List Block) ⊆ bs := by decide) : Changes bs s (t.receive b) := by
  refine c.via h ?_
  unfold State.receive
  repeat' first | with_reducible exact Changes.refl _ _ | with_reducible refine Changes.restartByteTimer ?_ | with_reducible refine Changes.rxFeed (by decide) _ _ ?_ | split

theorem Changes.byteTimeout {bs : List Block} {s t : State} (c : Changes bs s t) (l : List Byte)
    (h : ([.link] : List Block) ⊆ bs := by decide) : Changes bs s (t.byteTimeout l) := by
  refine c.via h ?_
  unfold State.byteTimeout
  exact (Changes.rxFeed (by decide) _ _ (((Changes.refl _ _).modLink _).linkError _ _)).restartByteTimer

end Sys2Proof.Machine
end

