-- ==== Sys2Proof/Laws/Dispatch.lean ====
section
/-! SUPPORT. What the dispatcher and the link's queues can do, said once: the cases of a request, of a reply and of an offered
notice. -/

namespace Sys2Proof.Machine

set_option Elab.async false

variable {code tag : Byte} {al : Nat → Bool} {ow : List Byte → State → Answer × State} {p : List Byte} {s : State}

theorem request_notTaken (h : s.takes code tag p = false) : request code al ow tag p s = .next s := by
  simp [request, h]

theorem request_badLength (h : s.takes code tag p = true) (k : al p.length = false) :
    request code al ow tag p s = .next (s.replied code tag .badLength []) := by
  simp [request, h, k, State.replied]

theorem request_taken (h : s.takes code tag p = true) (k : al p.length = true) :
    request code al ow tag p s =
      .next ((ow p s.takeFrame).2.answer code tag (ow p s.takeFrame).1) := by
  simp [request, h, k]

theorem request_reply {st : Status} {q : List Byte} (h : s.takes code tag p = true) (k : al p.length = true)
    (e : (ow p s.takeFrame).1 = .reply st q) :
    request code al ow tag p s = .next ((ow p s.takeFrame).2.pushReply ⟨tag, code, st, q⟩) := by
  rw [request_taken h k, e]
  rfl

theorem request_readOnly {f : List Byte → State → Status × List Byte} (h : s.takes code tag p = true)
    (k : al p.length = true) :
    request code al (readOnly f) tag p s = .next (s.replied code tag (f p s.takeFrame).1 (f p s.takeFrame).2) := by
  rw [request_taken h k]
  rfl

/-- Whatever a request does, it answers a next state. -/
theorem request_next : ∃ t, request code al ow tag p s = .next t := by
  unfold request
  split
  · split <;> exact ⟨_, rfl⟩
  · exact ⟨_, rfl⟩

theorem takes_up (h : s.takes code tag p = true) : s.link.up = true := by
  simp only [State.takes, Bool.and_eq_true] at h
  exact h.1.1

theorem takes_room (h : s.takes code tag p = true) : s.link.replies.length + s.link.reservations.length < 8 := by
  simp only [State.takes, Bool.and_eq_true, decide_eq_true_eq] at h
  exact h.1.2

theorem len_self (n : Nat) : len n n = true := by simp [len]

@[simp] theorem State.takeFrame_setup : s.takeFrame.setup = s.setup := rfl
@[simp] theorem State.takeFrame_panel : s.takeFrame.panel = s.panel := rfl
@[simp] theorem State.takeFrame_fe : s.takeFrame.fe = s.fe := rfl
@[simp] theorem State.takeFrame_acq : s.takeFrame.acq = s.acq := rfl
@[simp] theorem State.takeFrame_ring : s.takeFrame.ring = s.ring := rfl
@[simp] theorem State.takeFrame_meas : s.takeFrame.meas = s.meas := rfl
@[simp] theorem State.takeFrame_disp : s.takeFrame.disp = s.disp := rfl
@[simp] theorem State.takeFrame_ov : s.takeFrame.ov = s.ov := rfl
@[simp] theorem State.takeFrame_store : s.takeFrame.store = s.store := rfl
@[simp] theorem State.takeFrame_power : s.takeFrame.power = s.power := rfl
@[simp] theorem State.takeFrame_clock : s.takeFrame.clock = s.clock := rfl
@[simp] theorem State.takeFrame_pins : s.takeFrame.pins = s.pins := rfl
@[simp] theorem State.takeFrame_boxes : s.takeFrame.boxes = s.boxes := rfl
@[simp] theorem State.takeFrame_pending : s.takeFrame.pending = s.pending := rfl
@[simp] theorem State.takeFrame_freeCtr : s.takeFrame.freeCtr = s.freeCtr := rfl

end Sys2Proof.Machine
end

