-- ==== Sys2Proof/Laws/Memory.lean ====
section
/-! SUPPORT. The addressed buffers (R147, R168): every operation keeps the canonical form, and what a read gives after it. -/

namespace Sys2Proof.Machine

set_option Elab.async false

theorem Memory.wf_nil : Memory.wf [] = true := rfl

theorem Memory.wfFrom_mono {lo lo' : Nat} (h : lo' ≤ lo) : ∀ {m : Memory}, Memory.wfFrom lo m = true → Memory.wfFrom lo' m = true
  | [], _ => rfl
  | (a, v) :: t, k => by
    simp only [Memory.wfFrom, Bool.and_eq_true, decide_eq_true_eq] at k ⊢
    exact ⟨⟨by omega, k.1.2⟩, k.2⟩

/-- Below the bound of a canonical buffer nothing is listed. -/
theorem Memory.read_below {a : Nat} : ∀ {m : Memory} {lo : Nat}, Memory.wfFrom lo m = true → a < lo → m.read a = 0
  | [], _, _, _ => rfl
  | (b, v) :: t, lo, k, h => by
    simp only [Memory.wfFrom, Bool.and_eq_true, decide_eq_true_eq] at k
    have hb : a ≠ b := by omega
    simp only [Memory.read, hb, if_false]
    exact Memory.read_below k.2 (by omega)

/-- A write keeps the canonical form, above any bound that its address respects. -/
theorem Memory.write_wfFrom {a : Nat} {v : Byte} : ∀ {m : Memory} {lo : Nat}, lo ≤ a → Memory.wfFrom lo m = true →
    Memory.wfFrom lo (m.write a v) = true
  | [], lo, h, _ => by
    unfold Memory.write
    split
    · rfl
    · rename_i hv
      simp only [Memory.wfFrom, Bool.and_true, Bool.and_eq_true, decide_eq_true_eq]
      exact ⟨h, hv⟩
  | (b, w) :: t, lo, h, k => by
    have k' := k
    simp only [Memory.wfFrom, Bool.and_eq_true, decide_eq_true_eq] at k
    unfold Memory.write
    split
    · rename_i hab
      split
      · exact k'
      · rename_i hv
        simp only [Memory.wfFrom, Bool.and_eq_true, decide_eq_true_eq]
        exact ⟨⟨h, hv⟩, ⟨⟨by omega, k.1.2⟩, k.2⟩⟩
    · split
      · rename_i hab
        split
        · exact Memory.wfFrom_mono (by omega) k.2
        · rename_i hv
          simp only [Memory.wfFrom, Bool.and_eq_true, decide_eq_true_eq]
          exact ⟨⟨h, hv⟩, hab ▸ k.2⟩
      · simp only [Memory.wfFrom, Bool.and_eq_true, decide_eq_true_eq]
        exact ⟨k.1, Memory.write_wfFrom (by omega) k.2⟩

theorem Memory.write_wf {m : Memory} (h : m.wf = true) (a : Nat) (v : Byte) : (m.write a v).wf = true :=
  Memory.write_wfFrom (Nat.zero_le a) h

theorem Memory.writeAll_wf (l : List (Nat × Byte)) : ∀ {m : Memory}, m.wf = true → (m.writeAll l).wf = true := by
  induction l with
  | nil => exact fun h => h
  | cons p t ih => exact fun h => ih (Memory.write_wf h p.1 p.2)

theorem Memory.mapBytes_wfFrom (f : Byte → Byte) : ∀ {m : Memory} {lo : Nat}, Memory.wfFrom lo m = true →
    Memory.wfFrom lo (m.mapBytes f) = true
  | [], _, _ => rfl
  | (a, v) :: t, lo, k => by
    simp only [Memory.wfFrom, Bool.and_eq_true, decide_eq_true_eq] at k
    unfold Memory.mapBytes
    split
    · exact Memory.wfFrom_mono (by omega) (Memory.mapBytes_wfFrom f k.2)
    · rename_i hv
      simp only [Memory.wfFrom, Bool.and_eq_true, decide_eq_true_eq]
      exact ⟨⟨k.1.1, hv⟩, Memory.mapBytes_wfFrom f k.2⟩

theorem Memory.mapBytes_wf (f : Byte → Byte) {m : Memory} (h : m.wf = true) : (m.mapBytes f).wf = true :=
  Memory.mapBytes_wfFrom f h

/-- A read of another address sees no write. -/
theorem Memory.read_write_other {a b : Nat} {v : Byte} (h : b ≠ a) : ∀ (m : Memory), (m.write a v).read b = m.read b
  | [] => by
    unfold Memory.write
    split <;> simp [Memory.read, h]
  | (c, w) :: t => by
    unfold Memory.write
    split
    · split <;> simp [Memory.read, h]
    · split
      · rename_i hc
        split <;> simp [Memory.read, ← hc, h]
      · simp only [Memory.read, Memory.read_write_other h t]

theorem Memory.read_write_self_from {a : Nat} {v : Byte} : ∀ {m : Memory} {lo : Nat}, Memory.wfFrom lo m = true →
    (m.write a v).read a = v
  | [], _, _ => by
    unfold Memory.write
    split <;> simp_all [Memory.read]
  | (c, w) :: t, lo, k => by
    have k' := k
    simp only [Memory.wfFrom, Bool.and_eq_true, decide_eq_true_eq] at k
    unfold Memory.write
    split
    · rename_i hac
      split
      · rename_i hv
        have hc : a ≠ c := by omega
        rw [hv]
        simp only [Memory.read, hc, if_false]
        exact Memory.read_below (lo := c + 1) k.2 (by omega)
      · simp [Memory.read]
    · split
      · rename_i hac
        split
        · rename_i hv
          rw [hv]
          exact Memory.read_below k.2 (by omega)
        · simp [Memory.read]
      · rename_i hac
        simp only [Memory.read, hac, if_false]
        exact Memory.read_write_self_from k.2

/-- A read of the written address gives the value written. -/
theorem Memory.read_write_self {m : Memory} (h : m.wf = true) (a : Nat) (v : Byte) : (m.write a v).read a = v :=
  Memory.read_write_self_from h

theorem Memory.read_mapBytes_from (f : Byte → Byte) (h0 : f 0 = 0) (a : Nat) : ∀ {m : Memory} {lo : Nat},
    Memory.wfFrom lo m = true → (m.mapBytes f).read a = f (m.read a)
  | [], _, _ => h0.symm
  | (c, w) :: t, lo, k => by
    simp only [Memory.wfFrom, Bool.and_eq_true, decide_eq_true_eq] at k
    unfold Memory.mapBytes
    split
    · rename_i hw
      by_cases hac : a = c
      · rw [hac]
        simp only [Memory.read, if_true, hw]
        exact Memory.read_below (Memory.mapBytes_wfFrom f k.2) (by omega)
      · simp only [Memory.read, hac, if_false]
        exact Memory.read_mapBytes_from f h0 a k.2
    · by_cases hac : a = c
      · simp [Memory.read, hac]
      · simp only [Memory.read, hac, if_false]
        exact Memory.read_mapBytes_from f h0 a k.2

/-- A map that keeps 0 acts on what every address reads as. -/
theorem Memory.read_mapBytes (f : Byte → Byte) (h0 : f 0 = 0) {m : Memory} (h : m.wf = true) (a : Nat) :
    (m.mapBytes f).read a = f (m.read a) := Memory.read_mapBytes_from f h0 a h

/-- After a list of writes an address that none of them names reads as before. -/
theorem Memory.read_writeAll_other {a : Nat} (l : List (Nat × Byte)) : ∀ (m : Memory), a ∉ l.map (·.1) →
    (m.writeAll l).read a = m.read a := by
  induction l with
  | nil => exact fun _ _ => rfl
  | cons p t ih =>
    intro m h
    simp only [List.map_cons, List.mem_cons, not_or] at h
    show ((m.write p.1 p.2).writeAll t).read a = m.read a
    rw [ih _ h.2, Memory.read_write_other h.1]

/-- The buffers of the reset state are in canonical form. -/
theorem reset_buffers_wf :
    (∀ c : Fin 4, State.reset.disp.planes[c].wf = true) ∧ State.reset.ov.bufA.wf = true ∧ State.reset.ov.bufB.wf = true := by
  refine ⟨?_, rfl, rfl⟩
  decide

end Sys2Proof.Machine
end

