-- ==== Sys2Proof/Laws/PerInstr.lean ====
section
/-! SUPPORT. What holds of every command as syntax: a request stands for a frame of kind REQUEST and status 0 with the code of
its row of Table 52, whose lengths the table gives; an event stands for no frame. -/

namespace Sys2Proof.Laws

set_option Elab.async false

/-- A request's frame carries kind 1, status 0 and the row's code; every code but that of DISPATCH_BAD_CODE is one of Table 52,
with its allowed lengths; a command without a frame has no code. -/
def Codes.Statement (i : Instr) : Prop :=
  (∀ f, i.frame = some f → f.kind = 1 ∧ f.status = 0 ∧ i.requestCode = some f.code ∧
    ((∀ tag code payload, i ≠ .dispatchBadCode tag code payload) →
      f.code.toNat ∈ Machine.requestCodes ∧ (allowedLength f.code).isSome = true)) ∧
  (i.frame = none → i.requestCode = none)

theorem Codes.ofEvent {i : Instr} (h : i.frame = none) (k : i.requestCode = none) : Codes.Statement i :=
  ⟨fun _ e => (by rw [h] at e; cases e), fun _ => k⟩

theorem Codes.ofRequest {i : Instr} {tag code : Byte} {payload : List Byte} (h : i.frame = some ⟨1, tag, code, 0, payload⟩)
    (k : i.requestCode = some code) (m : code.toNat ∈ Machine.requestCodes) (l : (allowedLength code).isSome = true) :
    Codes.Statement i :=
  ⟨fun _ e => (by rw [h] at e; cases e; exact ⟨rfl, rfl, k, fun _ => ⟨m, l⟩⟩), fun e => (by rw [h] at e; cases e)⟩

theorem Codes.setField (tag : Byte) (payload : List Byte) : Codes.Statement (.setField tag payload) :=
  Codes.ofRequest rfl rfl (by decide) rfl

theorem Codes.getField (tag : Byte) (payload : List Byte) : Codes.Statement (.getField tag payload) :=
  Codes.ofRequest rfl rfl (by decide) rfl

theorem Codes.getGroup (tag : Byte) (payload : List Byte) : Codes.Statement (.getGroup tag payload) :=
  Codes.ofRequest rfl rfl (by decide) rfl

theorem Codes.setGroup (tag : Byte) (payload : List Byte) : Codes.Statement (.setGroup tag payload) :=
  Codes.ofRequest rfl rfl (by decide) rfl

theorem Codes.defaultSetup (tag : Byte) (payload : List Byte) : Codes.Statement (.defaultSetup tag payload) :=
  Codes.ofRequest rfl rfl (by decide) rfl

theorem Codes.undo (tag : Byte) (payload : List Byte) : Codes.Statement (.undo tag payload) :=
  Codes.ofRequest rfl rfl (by decide) rfl

theorem Codes.getUndoDepth (tag : Byte) (payload : List Byte) : Codes.Statement (.getUndoDepth tag payload) :=
  Codes.ofRequest rfl rfl (by decide) rfl

theorem Codes.keyScan (raw : BitVec 64) : Codes.Statement (.keyScan raw) :=
  Codes.ofEvent rfl rfl

theorem Codes.keyPress (p : Fin 64) : Codes.Statement (.keyPress p) :=
  Codes.ofEvent rfl rfl

theorem Codes.keyRelease (p : Fin 64) : Codes.Statement (.keyRelease p) :=
  Codes.ofEvent rfl rfl

theorem Codes.keyRepeat (p : Fin 64) : Codes.Statement (.keyRepeat p) :=
  Codes.ofEvent rfl rfl

theorem Codes.getKeys (tag : Byte) (payload : List Byte) : Codes.Statement (.getKeys tag payload) :=
  Codes.ofRequest rfl rfl (by decide) rfl

theorem Codes.setKeyAction (tag : Byte) (payload : List Byte) : Codes.Statement (.setKeyAction tag payload) :=
  Codes.ofRequest rfl rfl (by decide) rfl

theorem Codes.getKeyAction (tag : Byte) (payload : List Byte) : Codes.Statement (.getKeyAction tag payload) :=
  Codes.ofRequest rfl rfl (by decide) rfl

theorem Codes.encoderTransition (e : Fin 12) (a b : Bool) : Codes.Statement (.encoderTransition e a b) :=
  Codes.ofEvent rfl rfl

theorem Codes.encoderWindowEnd (e : Fin 12) : Codes.Statement (.encoderWindowEnd e) :=
  Codes.ofEvent rfl rfl

theorem Codes.setBinding (tag : Byte) (payload : List Byte) : Codes.Statement (.setBinding tag payload) :=
  Codes.ofRequest rfl rfl (by decide) rfl

theorem Codes.getBinding (tag : Byte) (payload : List Byte) : Codes.Statement (.getBinding tag payload) :=
  Codes.ofRequest rfl rfl (by decide) rfl

theorem Codes.ledBlinkToggle : Codes.Statement (.ledBlinkToggle) :=
  Codes.ofEvent rfl rfl

theorem Codes.setLed (tag : Byte) (payload : List Byte) : Codes.Statement (.setLed tag payload) :=
  Codes.ofRequest rfl rfl (by decide) rfl

theorem Codes.getLeds (tag : Byte) (payload : List Byte) : Codes.Statement (.getLeds tag payload) :=
  Codes.ofRequest rfl rfl (by decide) rfl

theorem Codes.beep (tag : Byte) (payload : List Byte) : Codes.Statement (.beep tag payload) :=
  Codes.ofRequest rfl rfl (by decide) rfl

theorem Codes.toneEnd : Codes.Statement (.toneEnd) :=
  Codes.ofEvent rfl rfl

theorem Codes.getPanelStatus (tag : Byte) (payload : List Byte) : Codes.Statement (.getPanelStatus tag payload) :=
  Codes.ofRequest rfl rfl (by decide) rfl

theorem Codes.feSetupAnnouncement : Codes.Statement (.feSetupAnnouncement) :=
  Codes.ofEvent rfl rfl

theorem Codes.feLatch : Codes.Statement (.feLatch) :=
  Codes.ofEvent rfl rfl

theorem Codes.settleTimerEnd : Codes.Statement (.settleTimerEnd) :=
  Codes.ofEvent rfl rfl

theorem Codes.feReadyRise : Codes.Statement (.feReadyRise) :=
  Codes.ofEvent rfl rfl

theorem Codes.feReadyFall : Codes.Statement (.feReadyFall) :=
  Codes.ofEvent rfl rfl

theorem Codes.readyWaitExpiry : Codes.Statement (.readyWaitExpiry) :=
  Codes.ofEvent rfl rfl

theorem Codes.getFeStatus (tag : Byte) (payload : List Byte) : Codes.Statement (.getFeStatus tag payload) :=
  Codes.ofRequest rfl rfl (by decide) rfl

theorem Codes.settlingBegan : Codes.Statement (.settlingBegan) :=
  Codes.ofEvent rfl rfl

theorem Codes.settlingEnded : Codes.Statement (.settlingEnded) :=
  Codes.ofEvent rfl rfl

theorem Codes.faultAnnouncement : Codes.Statement (.faultAnnouncement) :=
  Codes.ofEvent rfl rfl

theorem Codes.faultCleared : Codes.Statement (.faultCleared) :=
  Codes.ofEvent rfl rfl

theorem Codes.feClassChange : Codes.Statement (.feClassChange) :=
  Codes.ofEvent rfl rfl

theorem Codes.acqClassChange : Codes.Statement (.acqClassChange) :=
  Codes.ofEvent rfl rfl

theorem Codes.geomClassChange (order : GeomOrder) : Codes.Statement (.geomClassChange order) :=
  Codes.ofEvent rfl rfl

theorem Codes.trigClassChange : Codes.Statement (.trigClassChange) :=
  Codes.ofEvent rfl rfl

theorem Codes.sample (r1 r2 r3 r4 : RawCode) (ext : Bool) : Codes.Statement (.sample r1 r2 r3 r4 ext) :=
  Codes.ofEvent rfl rfl

theorem Codes.intervalComplete : Codes.Statement (.intervalComplete) :=
  Codes.ofEvent rfl rfl

theorem Codes.captureComplete (measFirst dispFirst : Bool) : Codes.Statement (.captureComplete measFirst dispFirst) :=
  Codes.ofEvent rfl rfl

theorem Codes.holdoffExpiry : Codes.Statement (.holdoffExpiry) :=
  Codes.ofEvent rfl rfl

theorem Codes.autoTimerExpiry : Codes.Statement (.autoTimerExpiry) :=
  Codes.ofEvent rfl rfl

theorem Codes.rateGateEnd : Codes.Statement (.rateGateEnd) :=
  Codes.ofEvent rfl rfl

theorem Codes.run (tag : Byte) (payload : List Byte) : Codes.Statement (.run tag payload) :=
  Codes.ofRequest rfl rfl (by decide) rfl

theorem Codes.stop (tag : Byte) (payload : List Byte) : Codes.Statement (.stop tag payload) :=
  Codes.ofRequest rfl rfl (by decide) rfl

theorem Codes.single (tag : Byte) (payload : List Byte) : Codes.Statement (.single tag payload) :=
  Codes.ofRequest rfl rfl (by decide) rfl

theorem Codes.forceTrigger (tag : Byte) (payload : List Byte) : Codes.Statement (.forceTrigger tag payload) :=
  Codes.ofRequest rfl rfl (by decide) rfl

theorem Codes.getAcqStatus (tag : Byte) (payload : List Byte) : Codes.Statement (.getAcqStatus tag payload) :=
  Codes.ofRequest rfl rfl (by decide) rfl

theorem Codes.failStop : Codes.Statement (.failStop) :=
  Codes.ofEvent rfl rfl

theorem Codes.gateOpened (measFirst dispFirst : Bool) : Codes.Statement (.gateOpened measFirst dispFirst) :=
  Codes.ofEvent rfl rfl

theorem Codes.rebuildAnnouncement : Codes.Statement (.rebuildAnnouncement) :=
  Codes.ofEvent rfl rfl

theorem Codes.holdRecord (tag : Byte) (payload : List Byte) : Codes.Statement (.holdRecord tag payload) :=
  Codes.ofRequest rfl rfl (by decide) rfl

theorem Codes.readPoints (tag : Byte) (payload : List Byte) : Codes.Statement (.readPoints tag payload) :=
  Codes.ofRequest rfl rfl (by decide) rfl

theorem Codes.releaseRecord (tag : Byte) (release : Release) : Codes.Statement (.releaseRecord tag release) :=
  Codes.ofRequest rfl rfl (by decide) rfl

theorem Codes.listRecords (tag : Byte) (payload : List Byte) : Codes.Statement (.listRecords tag payload) :=
  Codes.ofRequest rfl rfl (by decide) rfl

theorem Codes.clear (tag : Byte) (payload : List Byte) : Codes.Statement (.clear tag payload) :=
  Codes.ofRequest rfl rfl (by decide) rfl

theorem Codes.measCommitTaken : Codes.Statement (.measCommitTaken) :=
  Codes.ofEvent rfl rfl

theorem Codes.measRingAnnouncement : Codes.Statement (.measRingAnnouncement) :=
  Codes.ofEvent rfl rfl

theorem Codes.measClassChange : Codes.Statement (.measClassChange) :=
  Codes.ofEvent rfl rfl

theorem Codes.evaluationComplete : Codes.Statement (.evaluationComplete) :=
  Codes.ofEvent rfl rfl

theorem Codes.limitTimerExpiry : Codes.Statement (.limitTimerExpiry) :=
  Codes.ofEvent rfl rfl

theorem Codes.getResults (tag : Byte) (payload : List Byte) : Codes.Statement (.getResults tag payload) :=
  Codes.ofRequest rfl rfl (by decide) rfl

theorem Codes.clearStats (tag : Byte) (payload : List Byte) : Codes.Statement (.clearStats tag payload) :=
  Codes.ofRequest rfl rfl (by decide) rfl

theorem Codes.clearFail (tag : Byte) (payload : List Byte) : Codes.Statement (.clearFail tag payload) :=
  Codes.ofRequest rfl rfl (by decide) rfl

theorem Codes.limitOut (tag : Byte) (payload : List Byte) : Codes.Statement (.limitOut tag payload) :=
  Codes.ofRequest rfl rfl (by decide) rfl

theorem Codes.frameStart : Codes.Statement (.frameStart) :=
  Codes.ofEvent rfl rfl

theorem Codes.rasterCommitTaken : Codes.Statement (.rasterCommitTaken) :=
  Codes.ofEvent rfl rfl

theorem Codes.rasterComplete : Codes.Statement (.rasterComplete) :=
  Codes.ofEvent rfl rfl

theorem Codes.displaySetupAnnouncement : Codes.Statement (.displaySetupAnnouncement) :=
  Codes.ofEvent rfl rfl

theorem Codes.displayRingAnnouncement : Codes.Statement (.displayRingAnnouncement) :=
  Codes.ofEvent rfl rfl

theorem Codes.showRecord (tag : Byte) (payload : List Byte) : Codes.Statement (.showRecord tag payload) :=
  Codes.ofRequest rfl rfl (by decide) rfl

theorem Codes.cursorRead (tag : Byte) (payload : List Byte) : Codes.Statement (.cursorRead tag payload) :=
  Codes.ofRequest rfl rfl (by decide) rfl

theorem Codes.clearDisplay (tag : Byte) (payload : List Byte) : Codes.Statement (.clearDisplay tag payload) :=
  Codes.ofRequest rfl rfl (by decide) rfl

theorem Codes.getDisplayStatus (tag : Byte) (payload : List Byte) : Codes.Statement (.getDisplayStatus tag payload) :=
  Codes.ofRequest rfl rfl (by decide) rfl

theorem Codes.draw (tag : Byte) (payload : List Byte) : Codes.Statement (.draw tag payload) :=
  Codes.ofRequest rfl rfl (by decide) rfl

theorem Codes.drawRecordComplete : Codes.Statement (.drawRecordComplete) :=
  Codes.ofEvent rfl rfl

theorem Codes.presentCopyComplete : Codes.Statement (.presentCopyComplete) :=
  Codes.ofEvent rfl rfl

theorem Codes.setPalette (tag : Byte) (payload : List Byte) : Codes.Statement (.setPalette tag payload) :=
  Codes.ofRequest rfl rfl (by decide) rfl

theorem Codes.getOverlayStatus (tag : Byte) (payload : List Byte) : Codes.Statement (.getOverlayStatus tag payload) :=
  Codes.ofRequest rfl rfl (by decide) rfl

theorem Codes.save (tag : Byte) (payload : List Byte) : Codes.Statement (.save tag payload) :=
  Codes.ofRequest rfl rfl (by decide) rfl

theorem Codes.recall (tag : Byte) (payload : List Byte) : Codes.Statement (.recall tag payload) :=
  Codes.ofRequest rfl rfl (by decide) rfl

theorem Codes.erase (tag : Byte) (payload : List Byte) : Codes.Statement (.erase tag payload) :=
  Codes.ofRequest rfl rfl (by decide) rfl

theorem Codes.listSlots (tag : Byte) (payload : List Byte) : Codes.Statement (.listSlots tag payload) :=
  Codes.ofRequest rfl rfl (by decide) rfl

theorem Codes.calWrite (tag : Byte) (payload : List Byte) : Codes.Statement (.calWrite tag payload) :=
  Codes.ofRequest rfl rfl (by decide) rfl

theorem Codes.calRead (tag : Byte) (payload : List Byte) : Codes.Statement (.calRead tag payload) :=
  Codes.ofRequest rfl rfl (by decide) rfl

theorem Codes.storeWriteComplete : Codes.Statement (.storeWriteComplete) :=
  Codes.ofEvent rfl rfl

theorem Codes.loadComplete : Codes.Statement (.loadComplete) :=
  Codes.ofEvent rfl rfl

theorem Codes.supplyReset (straps : Straps) : Codes.Statement (.supplyReset straps) :=
  Codes.ofEvent rfl rfl

theorem Codes.holdTimerExpiry : Codes.Statement (.holdTimerExpiry) :=
  Codes.ofEvent rfl rfl

theorem Codes.standby (tag : Byte) (payload : List Byte) : Codes.Statement (.standby tag payload) :=
  Codes.ofRequest rfl rfl (by decide) rfl

theorem Codes.graceTimerExpiry : Codes.Statement (.graceTimerExpiry) :=
  Codes.ofEvent rfl rfl

theorem Codes.getPower (tag : Byte) (payload : List Byte) : Codes.Statement (.getPower tag payload) :=
  Codes.ofRequest rfl rfl (by decide) rfl

theorem Codes.frameReceived (b : Byte) : Codes.Statement (.frameReceived b) :=
  Codes.ofEvent rfl rfl

theorem Codes.frameRefused (b : Byte) : Codes.Statement (.frameRefused b) :=
  Codes.ofEvent rfl rfl

theorem Codes.interByteTimeout : Codes.Statement (.interByteTimeout) :=
  Codes.ofEvent rfl rfl

theorem Codes.breakDetected : Codes.Statement (.breakDetected) :=
  Codes.ofEvent rfl rfl

theorem Codes.breakEnd : Codes.Statement (.breakEnd) :=
  Codes.ofEvent rfl rfl

theorem Codes.dispatchBadCode (tag code : Byte) (payload : List Byte) : Codes.Statement (.dispatchBadCode tag code payload) :=
  ⟨fun _ e => (by cases e; exact ⟨rfl, rfl, rfl, fun h => absurd rfl (h tag code payload)⟩), fun e => (by cases e)⟩

theorem Codes.transmitFrameEnd : Codes.Statement (.transmitFrameEnd) :=
  Codes.ofEvent rfl rfl

theorem Codes.keyNoticeMove : Codes.Statement (.keyNoticeMove) :=
  Codes.ofEvent rfl rfl

theorem Codes.setNotices (tag : Byte) (payload : List Byte) : Codes.Statement (.setNotices tag payload) :=
  Codes.ofRequest rfl rfl (by decide) rfl

theorem Codes.getStatus (tag : Byte) (payload : List Byte) : Codes.Statement (.getStatus tag payload) :=
  Codes.ofRequest rfl rfl (by decide) rfl

theorem Codes.clearLinkErrors (tag : Byte) (payload : List Byte) : Codes.Statement (.clearLinkErrors tag payload) :=
  Codes.ofRequest rfl rfl (by decide) rfl

theorem Codes.reset (order : ResetOrder) (tag : Byte) (payload : List Byte) : Codes.Statement (.reset order tag payload) :=
  Codes.ofRequest rfl rfl (by decide) rfl

theorem Codes.receivedByte (b : Byte) : Codes.Statement (.receivedByte b) :=
  Codes.ofEvent rfl rfl

end Sys2Proof.Laws
end

