-- ==== Sys2Proof/Laws/Schedule.lean ====
section
/-! SUPPORT. What the scheduling points of the evaluator and the rasteriser, the geometry check, the arrival of an offer, the
withdrawal of a claim, the end of the pin, an abandonment and the discards of a segmented start can do, said once each. -/

namespace Sys2Proof.Machine


/-- The gate presented, with the announcement of an opening (R138). -/
theorem State.showGate_eq (s : State) :
    s.showGate = { s with
      meas := { s.meas with gateShut := s.gateShutNow }
      boxes := { s.boxes with gateOpens := s.boxes.gateOpens + bit (s.meas.gateShut && !s.gateShutNow) } } := by
  unfold State.showGate bit
  split
  · rename_i h
    rw [show s.gateShutNow = false by simp_all]
    rfl
  · rfl

theorem State.newEval_of (s : State) (x : Record) (k : EvalKind) : EvalOf s (s.newEval x k) x k := by
  refine ⟨rfl, rfl, rfl, rfl, rfl, rfl, rfl, rfl, rfl, fun j => ⟨?_, ?_⟩⟩
  · simp [State.newEval]
  · simp only [State.newEval, Fin.getElem_fin, Vector.getElem_ofFn]
    fin_cases j <;> rfl

theorem State.scheduleFirst_none {u : State} (h : ¬Newer u.ring u.meas.ns) : u.scheduleFirst = (false, u) := by
  unfold State.scheduleFirst Ring.newest
  split
  · rename_i x hx
    exact if_neg (fun hn => h ⟨x, hx, hn⟩)
  · rfl

/-- Everything that a scheduling point of the evaluator can do. -/
theorem State.measSchedule_spec (u : State) : MeasScheduled u u.measSchedule := by
  have e (h : ¬Newer u.ring u.meas.ns) := u.scheduleFirst_none h
  constructor
  · intro x hx hn
    refine ⟨_, State.newEval_of u x .first, ?_⟩
    unfold State.measSchedule State.scheduleFirst
    rw [show u.ring.newest = some x from hx]
    simp only [hn, if_true]
    rfl
  · intro h hc
    unfold State.measSchedule
    rw [e h]
    simp only [hc, if_true, State.showGate_eq]
    have g : ∀ v : State, v.meas.ns = v.ring.counter → v.gateShutNow = (decide (v.fld 161 = 1) && v.meas.failFlag) := by
      intro v hv
      simp only [State.gateShutNow, hv, Nat.lt_irrefl, decide_false, Bool.false_or]
      rfl
    rw [g _ rfl]
    rfl
  · intro h hc hr
    unfold State.measSchedule
    rw [e h]
    simp [Nat.not_lt.2 hc, hr]
  · intro h hc hr hs
    unfold State.measSchedule
    rw [e h]
    simp only [Nat.not_lt.2 hc, hr, if_false, if_true]
    exact if_neg (fun k => hs (of_decide_eq_true k))
  · intro h hc hr hs
    have z : u.measSchedule = (u.modMeas (fun m => { m with reReq := false })).startReEval := by
      unfold State.measSchedule
      rw [e h]
      simp only [Nat.not_lt.2 hc, hr, if_false, if_true]
      exact if_pos (decide_eq_true hs)
    rw [z]
    have k : ∀ v : State, v.ring = u.ring → v.disp = u.disp → v.shownRecord = u.shownRecord := by
      intro v h1 h2
      simp [State.shownRecord, h1, h2]
    unfold State.startReEval
    rw [k (u.modMeas (fun m => { m with reReq := false })) rfl rfl]
    constructor
    · intro x hx
      refine ⟨_, State.newEval_of u x .re, ?_⟩
      rw [show u.shownRecord = some x from hx]
      rfl
    · intro hx
      rw [show u.shownRecord = none from hx]
      rfl
theorem State.newRaster_drawn (s : State) (x : Record) (k : RasterKind) : Drawn s (s.newRaster x k) x k := by
  refine ⟨rfl, rfl, rfl, rfl, rfl, rfl, rfl, rfl, rfl, fun c => ?_⟩
  simp [State.newRaster]

theorem State.scheduleLive_none {u : State} (h : ¬Newer u.ring u.disp.nd) : u.scheduleLive = (false, u) := by
  unfold State.scheduleLive Ring.newest
  split
  · rename_i x hx
    exact if_neg (fun hn => h ⟨x, hx, hn⟩)
  · rfl

theorem State.passGone_eq (u : State) : u.passGone = u.passedOver := by
  unfold State.passGone State.passedOver
  by_cases h : u.disp.nd < u.ring.counter
  · rw [if_pos h, if_neg (Nat.not_le.2 h)]
    rfl
  · rw [if_neg h, if_pos (Nat.not_lt.1 h)]

theorem State.passedOver_eq (u : State) : u.passedOver = { u with disp := u.passedOver.disp } := by
  unfold State.passedOver
  split <;> rfl

theorem State.passedOver_kept (u : State) :
    u.passedOver.disp.redraw = u.disp.redraw ∧ u.passedOver.disp.sel = u.disp.sel ∧
      u.passedOver.disp.planes = u.disp.planes := by
  unfold State.passedOver
  split <;> exact ⟨rfl, rfl, rfl⟩

theorem State.tryRaster_granted {u : State} {x : Record} (hp : u.ring.pin = none)
    (hx : u.ring.order.find? (fun y => y.number == x.number) = some x) (k : RasterKind) :
    u.tryRaster x.number k =
      (true, ({ u with ring := { u.ring with pin := some x.number } } : State).startRaster x k) := by
  have hf : u.ring.find x.number = some x := hx
  unfold State.tryRaster State.requestPin
  rw [hf]
  simp [hp]
  rfl

theorem State.tryRaster_absent {u : State} {n : Nat} (h : u.ring.find n = none) (k : RasterKind) :
    u.tryRaster n k = (false, u) := by
  unfold State.tryRaster
  rw [h]
  split
  · simp_all
  · rfl

theorem State.startRaster_eq (u : State) (x : Record) (k : RasterKind) :
    u.startRaster x k = { u with disp := { u.disp with
      raster := some (u.newRaster x k)
      planes := if k = .redraw ∨ u.fld idPersist = 0 then Vector.replicate 4 [] else u.disp.planes } } := by
  unfold State.startRaster
  have h : (u.newRaster x k).persist = u.fld idPersist := rfl
  dsimp only
  rw [h]
  split <;> rfl

/-- Everything that a scheduling point of the rasteriser can do while the pin is free. -/
theorem State.dispSchedule_spec (u : State) (hp : u.ring.pin = none) : DisplayScheduled u u.dispSchedule := by
  have e (h : ¬Newer u.ring u.disp.nd) := u.scheduleLive_none h
  have z (h : ¬Newer u.ring u.disp.nd) (hr : u.disp.redraw = true) : u.dispSchedule =
      (let v : State := { u with disp := { u.passedOver.disp with redraw := false } }
      if u.acq.st = .stopped then v.tryRedraw else v) := by
    unfold State.dispSchedule
    rw [e h]
    simp only [State.passGone_eq, u.passedOver_kept.1, hr, if_true]
    rw [u.passedOver_eq]
    by_cases hs : u.acq.st = .stopped
    · rw [if_pos hs]
      exact if_pos (decide_eq_true hs)
    · rw [if_neg hs]
      exact if_neg (fun k => hs (of_decide_eq_true k))
  constructor
  · intro x hx hn hf
    refine ⟨_, State.newRaster_drawn u x .live, ?_⟩
    unfold State.dispSchedule State.scheduleLive
    rw [show u.ring.newest = some x from hx]
    simp only [hn, if_true]
    rw [State.tryRaster_granted (u := u.modDisp _) hp hf]
    simp only [State.startRaster_eq, reduceCtorEq, false_or]
    rfl
  · intro h hr
    unfold State.dispSchedule
    rw [e h]
    simp [State.passGone_eq, u.passedOver_kept.1, hr]
  · intro h hr hs
    rw [z h hr]
    exact if_neg hs
  · intro h hr hs x hx hf
    rw [z h hr]
    simp only [hs, if_true]
    refine ⟨_, State.newRaster_drawn u x .redraw, ?_⟩
    have hn : (({ u with disp := { u.passedOver.disp with redraw := false } } : State)).redrawTarget = some x.number := by
      unfold State.redrawTarget
      dsimp only
      rw [u.passedOver_kept.2.1]
      rcases hx with hx | ⟨hx, hl⟩
      · rw [hx]
      · rw [hx]
        simp only [Ring.newest, hl, Option.map_some]
    unfold State.tryRedraw
    dsimp only
    rw [hn]
    simp only
    rw [State.tryRaster_granted (u := { u with disp := { u.passedOver.disp with redraw := false } }) hp hf]
    simp only [State.startRaster_eq, true_or, if_true]
    rfl
  · intro h hr hs hx
    rw [z h hr]
    simp only [hs, if_true]
    have ht : (({ u with disp := { u.passedOver.disp with redraw := false } } : State)).redrawTarget =
        (match u.disp.sel with
          | some n => some n
          | none => u.ring.newest.map (·.number)) := by
      unfold State.redrawTarget
      dsimp only
      rw [u.passedOver_kept.2.1] <;> rfl
    unfold State.tryRedraw
    dsimp only
    rw [ht]
    rcases hx with ⟨hx, hl⟩ | ⟨n, hx, hl⟩
    · rw [hx]
      simp only [Ring.newest, hl, List.getLast?_nil, Option.map_none]
      rfl
    · rw [hx]
      simp only
      rw [State.tryRaster_absent (u := { u with disp := { u.passedOver.disp with redraw := false } }) hl]
      rfl

/-- Everything that the geometry check can do. -/
theorem State.geomCheck_spec (u : State) : GeometryChecked u u.geomCheck := by
  have e (h : u.geomBuilt = false ∨ u.ring.geomPending = true) : (u.geomBuilt && !u.ring.geomPending) = false := by
    rcases h with h | h <;> simp [h]
  unfold State.geomCheck
  constructor
  · intro h1 h2
    simp [h1, h2]
  · intro h hl
    rw [e h]
    simp only [hl, if_true, Bool.false_eq_true, if_false]
    rfl
  · intro h hl hf
    rw [e h]
    simp [hl, hf]
  · intro h hl hf
    rw [e h]
    simp only [hl, hf, Bool.false_eq_true, if_false]
    unfold State.rebuild State.cancelPin
    cases hp : u.ring.pin with
    | none =>
      simp only [List.append_nil]
      rw [← hp]
      rfl
    | some n => rfl

theorem findIdx_first {l : List SlotSt} {i : Nat} (h : ∀ j < i, l[j]? ≠ some SlotSt.empty)
    (hi : l[i]? = some SlotSt.empty) : l.findIdx (fun x => x == .empty) = i := by
  obtain ⟨hl, he⟩ := List.getElem?_eq_some_iff.1 hi
  rw [List.findIdx_eq hl]
  refine ⟨by simp [he], fun j hj => ?_⟩
  have := h j hj
  rw [List.getElem?_eq_getElem (by omega)] at this
  simpa using this

theorem findIdx_none {l : List SlotSt} (h : ∀ i : Nat, l[i]? ≠ some SlotSt.empty) :
    ¬ l.findIdx (fun x => x == .empty) < l.length := by
  intro hl
  have := List.findIdx_getElem (w := hl)
  exact h _ (by rw [List.getElem?_eq_getElem hl]; simpa using this)

/-- Everything that the arrival of an offer can do. -/
theorem State.takeSlot_spec (s : State) (i : Nat) : SlotTaken s (s.takeSlot i) i := by
  constructor
  · intro h
    rw [State.takeSlot, if_pos h]
    exact s.granted_running i (by rw [h]; decide)
  · intro h
    rw [State.takeSlot, if_neg h]
    exact State.geomCheck_spec _

/-- Everything that a withdrawal with one offer on its way can do. -/
theorem State.withdrawClaim_spec {s : State} {i : Nat} (h : s.boxes.offers = [i]) : OfferDeclined s s.withdrawClaim i := by
  unfold State.withdrawClaim
  rw [h]
  exact State.geomCheck_spec _

/-- A withdrawal with no offer on its way clears the two notes alone. -/
theorem State.withdrawClaim_plain {s : State} (h : s.boxes.offers = []) :
    s.withdrawClaim = { s with ring := { s.ring with waitSlot := false, waitRebuild := false } } := by
  unfold State.withdrawClaim
  rw [h, List.foldl_nil]
  simp only [State.modBoxes, State.modRing]
  rw [← h]

/-- Everything that the end of the display's pin can do. -/
theorem State.endPin_spec (s : State) (n : Nat) : PinEnded s (s.endPin n) n := by
  let v : State := { s with ring := { s.ring with pin := none } }
  have e (h : s.ring.pin = some n) : s.endPin n = v.serveWaiting false := if_pos h
  have w (h : s.ring.waitSlot = true) : v.serveWaiting false = (match v.claimSteps with
      | (some i, s1) => s1.takeSlot i
      | (none, s1) => s1) := if_pos h
  have d (m : Nat) : v.ring.discardable m = !s.ring.locked m := by
    simp [v, Ring.discardable, Ring.locked]
  have x (h : s.ring.counter ≠ 4294967295) : v.ring.exhausted = false := by
    simp [v, Ring.exhausted, top32, h]
  have same (h : s.ring.waitSlot = true) : v.modRing (fun r => { r with waitSlot := true }) = v := by
    simp only [v, State.modRing]
    rw [← h]
  constructor
  · intro h
    exact if_neg h
  · intro h hw
    rw [e h]
    by_cases hs : s.ring.waitSlot = true
    · have hx : v.ring.exhausted = true := by
        simp_all [v, Ring.exhausted, top32]
      rw [w hs]
      unfold State.claimSteps
      rw [if_pos hx]
      exact same hs
    · exact if_neg hs
  · intro h hw hc i hi he
    have hf : v.ring.slots.findIdx (fun x => x == .empty) = i := findIdx_first hi he
    have hl : i < v.ring.slots.length := (List.getElem?_eq_some_iff.1 he).1
    rw [e h, w hw]
    unfold State.claimSteps
    simp only [x hc, hf, hl, Bool.false_eq_true, if_false, if_true]
    exact State.takeSlot_spec _ _
  · intro h hw hc hn older y newer ho hk hy
    have hf : v.ring.order.find? (fun z => v.ring.discardable z.number) = some y := by
      rw [show v.ring.order = older ++ y :: newer from ho, List.find?_append]
      rw [List.find?_eq_none.2 (by intro z hz; simp [d, hk z hz])]
      simp [d, hy]
    rw [e h, w hw]
    unfold State.claimSteps
    simp only [x hc, findIdx_none (l := v.ring.slots) hn, hf, Bool.false_eq_true, if_false]
    simp only [State.discardRecord, State.grantSlot, State.announceRing, State.modRing, State.modBoxes, Ring.remove,
      List.set_set]
    exact State.takeSlot_spec _ _
  · intro h hw hc hn hk
    have hf : v.ring.order.find? (fun z => v.ring.discardable z.number) = none :=
      List.find?_eq_none.2 (by intro z hz; simp [d, hk z hz])
    rw [e h, w hw]
    unfold State.claimSteps
    simp only [x hc, findIdx_none (l := v.ring.slots) hn, hf, Bool.false_eq_true, if_false]
    exact same hw


theorem State.dispSchedule_quiet {u : State} (hc : u.ring.counter ≤ u.disp.nd) (hn : ¬Newer u.ring u.disp.nd)
    (hz : u.disp.redraw = false) : u.dispSchedule = u := by
  unfold State.dispSchedule
  rw [State.scheduleLive_none hn]
  simp only [State.passGone_eq, State.passedOver, if_pos hc, hz, Bool.false_eq_true, if_false]

theorem State.claimSteps_frame (s : State) (d : Display) (k : Nat) :
    ({ s with disp := d, freeCtr := k } : State).claimSteps =
      (s.claimSteps.1, { s.claimSteps.2 with disp := d, freeCtr := k }) := by
  unfold State.claimSteps
  dsimp only
  split
  · rfl
  · split
    · rfl
    · split <;> rfl

theorem State.geomCheck_frame (s : State) (d : Display) (k : Nat) :
    ({ s with disp := d, freeCtr := k } : State).geomCheck = { s.geomCheck with disp := d, freeCtr := k } := by
  have hc : ({ s with disp := d, freeCtr := k } : State).cancelPin = { s.cancelPin with disp := d, freeCtr := k } := by
    unfold State.cancelPin
    dsimp only
    split <;> rfl
  have hb : ({ s with disp := d, freeCtr := k } : State).rebuild = { s.rebuild with disp := d, freeCtr := k } := by
    unfold State.rebuild
    rw [hc]
    rfl
  unfold State.geomCheck
  rw [hb, show ({ s with disp := d, freeCtr := k } : State).geomBuilt = s.geomBuilt from rfl]
  dsimp only
  split
  · rfl
  · split
    · rfl
    · split <;> rfl

theorem State.takeSlot_frame (s : State) (d : Display) (k i : Nat) :
    ({ s with disp := d, freeCtr := k } : State).takeSlot i = { s.takeSlot i with disp := d, freeCtr := k } := by
  unfold State.takeSlot
  dsimp only
  split
  · rename_i h
    rw [State.granted_running _ _ (by rw [h]; decide), State.granted_running s _ (by rw [h]; decide)]
    rfl
  · exact State.geomCheck_frame (s.modRing (fun r => { r with slots := r.slots.set i .empty })) d k

theorem State.serveWaiting_frame (s : State) (w : Bool) (d : Display) (k : Nat) :
    ({ s with disp := d, freeCtr := k } : State).serveWaiting w = { s.serveWaiting w with disp := d, freeCtr := k } := by
  unfold State.serveWaiting
  rw [State.claimSteps_frame]
  generalize s.claimSteps = x
  by_cases h : s.ring.waitSlot = true
  · simp only [h, if_true]
    obtain ⟨_ | i, y⟩ := x
    · rfl
    · cases w
      · exact State.takeSlot_frame y d k i
      · rfl
  · simp only [h]
    rfl

theorem State.endPin_frame (s : State) (d : Display) (k n : Nat) :
    ({ s with disp := d, freeCtr := k } : State).endPin n = { s.endPin n with disp := d, freeCtr := k } := by
  unfold State.endPin
  dsimp only
  split
  · exact State.serveWaiting_frame (s.modRing (fun r => { r with pin := none })) false d k
  · rfl

theorem State.claimSteps_pin (s : State) : s.claimSteps.2.ring.pin = s.ring.pin := by
  unfold State.claimSteps
  dsimp only
  split
  · rfl
  · split
    · rfl
    · split <;> rfl

theorem State.geomCheck_pin {s : State} (h : s.ring.pin = none) : s.geomCheck.ring.pin = none := by
  unfold State.geomCheck State.rebuild State.cancelPin
  split
  · exact h
  · split
    · exact h
    · split
      · exact h
      · rw [h]
        exact h

theorem State.serveWaiting_pin {s : State} (w : Bool) (h : s.ring.pin = none) : (s.serveWaiting w).ring.pin = none := by
  have hp := s.claimSteps_pin
  unfold State.serveWaiting
  split
  · revert hp
    generalize s.claimSteps = x
    obtain ⟨_ | i, y⟩ := x
    · exact fun e => e.trans h
    · intro e
      cases w
      · simp only [Bool.false_eq_true, if_false]
        unfold State.takeSlot
        split
        · rename_i hw
          rw [State.granted_running _ _ (by rw [hw]; decide)]
          exact e.trans h
        · exact State.geomCheck_pin (e.trans h)
      · exact e.trans h
  · exact h

theorem State.endPin_free {s : State} {n : Nat} (h : s.ring.pin = none ∨ s.ring.pin = some n) :
    (s.endPin n).ring.pin = none := by
  unfold State.endPin
  split
  · exact State.serveWaiting_pin false rfl
  · simp_all

theorem not_newer {r : Ring} {n : Nat} (h : ∀ x, r.order.getLast? = some x → x.number ≤ n) : ¬Newer r n :=
  fun ⟨x, hx, hn⟩ => absurd (h x hx) (Nat.not_le.2 hn)

/-- Everything that an abandonment with its event and its scheduling point can do, the event changing the display alone. -/
theorem State.abandonThen_spec {s : State} {r : Raster} {d : Display} {f : State → State} (hr : s.disp.raster = some r)
    (hd : f s.abandon = { s.abandon with disp := d }) : Abandoned s r d (s.abandonThen f) := by
  have ha : s.abandonThen f = State.dispSchedule { s.endPin r.record with freeCtr := s.freeCtr + 1, disp := d } := by
    unfold State.abandonThen
    rw [hr, hd]
    unfold State.abandon
    rw [hr]
    simp only [Option.isSome_some, if_true, State.rasterEnds, State.modFree, State.modDisp]
    have h := State.endPin_frame s { s.disp with planes := s.disp.landed (Config.hitsLanded s.freeCtr), raster := none }
      (s.freeCtr + 1) r.record
    simp only at h
    rw [h]
    rfl
  refine ⟨s.endPin r.record, s.endPin_spec _, fun hp => ?_, fun hw hc hn hz => ?_⟩
  · rw [ha]
    exact State.dispSchedule_spec _ (State.endPin_free hp)
  · rw [ha]
    have hu : s.endPin r.record =
        { s with ring := { s.ring with pin := if s.ring.pin = some r.record then none else s.ring.pin } } := by
      by_cases hp : s.ring.pin = some r.record
      · rw [if_pos hp]
        exact (s.endPin_spec r.record).unclaimed hp (.inl (hw.resolve_right (fun k => k hp)))
      · rw [if_neg hp]
        exact (s.endPin_spec r.record).cancelled hp
    rw [hu]
    exact State.dispSchedule_quiet hc hn hz

/-- What the discards of a list of records do. -/
theorem State.discardAll_spec (l : List Record) (s : State) :
    s.discardAll l = { s with
      ring := { s.ring with
        order := s.ring.order.filter (fun y => l.all (fun x => y.number != x.number))
        slots := l.foldl (fun q x => q.set x.slot .empty) s.ring.slots }
      boxes := { s.boxes with
        measRing := s.boxes.measRing ++ l.map (fun x => .discard x.number)
        dispRing := s.boxes.dispRing ++ l.map (fun x => .discard x.number) } } := by
  unfold State.discardAll
  induction l generalizing s with
  | nil => simp
  | cons x l ih =>
    rw [List.foldl_cons, ih]
    simp only [State.discardRecord, Ring.remove, State.announceRing, State.modBoxes, State.modRing, List.filter_filter,
      List.foldl_cons, List.map_cons, List.append_assoc, List.singleton_append, List.all_cons]
    simp only [Bool.and_comm]

theorem foldl_empty_get (l : List Record) (q : List SlotSt) (i : Nat) :
    (l.foldl (fun q x => q.set x.slot .empty) q)[i]? =
      if ∃ x ∈ l, x.slot = i then q[i]?.map (fun _ => SlotSt.empty) else q[i]? := by
  induction l generalizing q with
  | nil => simp
  | cons x l ih =>
    rw [List.foldl_cons, ih]
    by_cases h : x.slot = i
    · rw [if_pos (c := ∃ y ∈ x :: l, y.slot = i) ⟨x, by simp, h⟩]
      subst h
      rcases hq : q[x.slot]? with _ | z
      · split <;> simp_all
      · have hb := (List.getElem?_eq_some_iff.1 hq).1
        split <;> simp_all
    · have hi : (q.set x.slot .empty)[i]? = q[i]? := by simp [h]
      simp [hi, h]

/-- Everything that a segmented start's discards do. -/
theorem State.segmentedDiscard_spec (s : State) : SegmentsDiscarded s s.segmentedDiscard := by
  let gone := s.ring.order.filter (fun x => !s.ring.locked x.number)
  have hm (x : Record) : x ∈ gone ↔ x ∈ s.ring.order ∧ s.ring.locked x.number = false := by simp [gone]
  have hf : s.ring.order.filter (fun y => gone.all (fun x => y.number != x.number)) =
      s.ring.order.filter (fun y => s.ring.locked y.number) := by
    refine List.filter_congr (fun y hy => Bool.eq_iff_iff.2 ⟨fun h => ?_, fun h => ?_⟩)
    · by_contra hk
      have := List.all_eq_true.1 h y ((hm y).2 ⟨hy, by simpa using hk⟩)
      simp at this
    · refine List.all_eq_true.2 (fun x hx => bne_iff_ne.2 (fun hxy => ?_))
      rw [hxy, ((hm x).1 hx).2] at h
      exact Bool.noConfusion h
  have hs (i : Nat) : (∃ x ∈ gone, x.slot = i) ↔ ∃ x ∈ s.ring.order, x.slot = i ∧ s.ring.locked x.number = false :=
    ⟨fun ⟨x, hx, h⟩ => ⟨x, ((hm x).1 hx).1, h, ((hm x).1 hx).2⟩, fun ⟨x, hx, h, k⟩ => ⟨x, (hm x).2 ⟨hx, k⟩, h⟩⟩
  have hp : gone.any (fun x => s.ring.pin == some x.number) = true ↔
      ∃ x ∈ s.ring.order, s.ring.pin = some x.number ∧ s.ring.locked x.number = false := by
    rw [List.any_eq_true]
    exact ⟨fun ⟨x, hx, h⟩ => ⟨x, ((hm x).1 hx).1, by simpa using h, ((hm x).1 hx).2⟩,
      fun ⟨x, hx, h, k⟩ => ⟨x, (hm x).2 ⟨hx, k⟩, by simpa using h⟩⟩
  by_cases h : gone.any (fun x => s.ring.pin == some x.number) = true
  · obtain ⟨x, hx, hn, -⟩ := hp.1 h
    have e : s.segmentedDiscard = ({ s with
        ring := { s.ring with pin := none }
        boxes := { s.boxes with dispRing := s.boxes.dispRing ++ [.pinCancelled x.number] } } : State).discardAll gone := by
      refine (congrArg (fun z : State => z.discardAll gone) (if_pos h)).trans ?_
      unfold State.cancelPin
      rw [hn]
      rfl
    rw [e, State.discardAll_spec]
    dsimp only
    rw [hf]
    refine ⟨rfl, fun i => ?_, ?_, ?_, ?_⟩
    · dsimp only
      rw [foldl_empty_get]
      simp only [hs]
    · rw [if_pos (hp.1 h)]
    · dsimp only
      rw [hn]
      rfl
    · rfl
  · have e : s.segmentedDiscard = s.discardAll gone :=
      congrArg (fun z : State => z.discardAll gone) (if_neg h)
    rw [e, State.discardAll_spec, hf]
    refine ⟨rfl, fun i => ?_, ?_, ?_, ?_⟩
    · dsimp only
      rw [foldl_empty_get]
      simp only [hs]
    · rw [if_neg (fun k => h (hp.2 k))]
    · dsimp only
      cases hn : s.ring.pin with
      | none => simp [gone]
      | some n => simp [gone]
    · rfl

end Sys2Proof.Machine
end

