-- ==== Sys2Proof/Laws/Setup.lean ====
section
/-! SUPPORT. What a change of the live setup does, said once: the readiness and the gate presented, a write of the setup, a field
change, a whole-setup replacement. -/

namespace Sys2Proof.Machine

set_option Elab.async false

@[simp] theorem State.announce_setup (s : State) (a : SetupAnn) : (s.announce a).setup = s.setup := rfl

/-- Two states that agree on the announcements that only other blocks hand over. -/
def SameOthers (s t : State) : Prop :=
  t.boxes = { s.boxes with settle := t.boxes.settle, gateOpens := t.boxes.gateOpens }

theorem SameOthers.refl (s : State) : SameOthers s s := rfl

theorem SameOthers.trans {s t u : State} (h : SameOthers s t) (k : SameOthers t u) : SameOthers s u := by
  unfold SameOthers at *
  rw [k, h]

theorem showReadiness_spec (s : State) :
    SameOthers s s.showReadiness ∧ s.showReadiness.fe = { s.fe with readyShown := s.feReadyNow } := by
  unfold State.showReadiness
  split
  · rename_i h
    exact ⟨rfl, by rw [h]⟩
  · exact ⟨rfl, rfl⟩

theorem showGate_spec (s : State) :
    SameOthers s s.showGate ∧ s.showGate.meas = { s.meas with gateShut := s.gateShutNow } := by
  unfold State.showGate
  split
  · rename_i h
    simp only [Bool.and_eq_true, Bool.not_eq_true'] at h
    exact ⟨rfl, by simp [h.2]⟩
  · exact ⟨rfl, rfl⟩

theorem setupWritten_spec (s : State) (l : List Change) :
    SameOthers s (s.setupWritten l) ∧
      (s.setupWritten l).fe = { s.fe with readyShown := (s.setupWritten l).fe.readyShown } ∧
      (s.setupWritten l).meas =
        { s.meas with
          eval := s.meas.eval.map (·.noteChanges l), gateShut := (s.setupWritten l).meas.gateShut } := by
  unfold State.setupWritten
  generalize hs1 : s.modMeas _ = s1
  have hm : s1.meas = { s.meas with eval := s.meas.eval.map (·.noteChanges l) } := by rw [← hs1]; rfl
  have hb : SameOthers s s1 := by rw [← hs1]; rfl
  have hf : s1.fe = s.fe := by rw [← hs1]; rfl
  have r := showReadiness_spec s1
  have g := showGate_spec s1.showReadiness
  have rm : s1.showReadiness.meas = s1.meas := ((Changes.refl [.boxes, .fe] s1).showReadiness).get .meas
  have gf : s1.showReadiness.showGate.fe = s1.showReadiness.fe :=
    ((Changes.refl [.boxes, .meas] _).showGate).get .fe
  refine ⟨(hb.trans r.1).trans g.1, ?_, ?_⟩
  · rw [gf, r.2, hf]
  · rw [g.2, rm, hm]

theorem offer_setup (s : State) (n : Notice) : (s.offer n).setup = s.setup :=
  ((Changes.refl [.link] s).offer n).get .setup

theorem pushReply_setup (s : State) (r : Reply) : (s.pushReply r).setup = s.setup :=
  ((Changes.refl [.link] s).pushReply r).get .setup

theorem writeSetup_spec (s : State) (v : SetupVals) (l : List Change) :
    (s.writeSetup v l).setup = ⟨v, nextGen s.setup.gen, s.setup.undo⟩ ∧ SameOthers s (s.writeSetup v l) ∧
      (s.writeSetup v l).fe = { s.fe with readyShown := (s.writeSetup v l).fe.readyShown } ∧
      (s.writeSetup v l).meas =
        { s.meas with
          eval := s.meas.eval.map (·.noteChanges l), gateShut := (s.writeSetup v l).meas.gateShut
          failFlag := s.meas.failFlag && !s.failstopOff v } := by
  unfold State.writeSetup
  generalize hs1 : (s.modSetup _).modMeas _ = s1
  have hset : (s1.setupWritten l).setup = s1.setup :=
    ((Changes.refl [.meas, .fe, .boxes] s1).setupWritten l).get .setup
  have hb : SameOthers s s1 := by rw [← hs1]; rfl
  have w := setupWritten_spec s1 l
  have hf : s1.fe = s.fe := by rw [← hs1]; rfl
  have hm : s1.meas = { s.meas with failFlag := s.meas.failFlag && !s.failstopOff v } := by rw [← hs1]; rfl
  refine ⟨by rw [hset, ← hs1]; rfl, hb.trans w.1, ?_, ?_⟩
  · rw [w.2.1, hf]
  · rw [w.2.2, hm]

/-- What the link does with a reply depends on the link and the clock alone. -/
theorem kick_link_congr {x y : State} (hl : x.link = y.link) (hc : x.clock = y.clock) : x.kick.link = y.kick.link := by
  unfold State.kick
  rw [hl]
  split
  · split <;> simp [hl, hc]
  · exact hl

theorem pushReply_link_congr {x y : State} (hl : x.link = y.link) (hc : x.clock = y.clock) (r : Reply) :
    (x.pushReply r).link = (y.pushReply r).link :=
  kick_link_congr (by simp [hl]) (by simpa using hc)

theorem offer_link_congr {x y : State} (hl : x.link = y.link) (hc : x.clock = y.clock) (n : Notice) :
    (x.offer n).link = (y.offer n).link := by
  unfold State.offer
  rw [hl]
  split
  · split
    · exact kick_link_congr (by simp [hl]) (by simpa using hc)
    · simp [hl]
  · exact hl

/-- Which slot of the Measurement Unit a change list names, and which slot differs between two setups (R127). -/
theorem fieldIx_id (i : Fin 87) : fieldIx (fieldInfo i).id = some i := by
  revert i
  decide +kernel

theorem slot_field (m k : Fin 6) : ∃ i, fieldIx (100 + 10 * m.val + k.val) = some i ∧
    (fieldInfo i).id = 100 + 10 * m.val + k.val := by
  revert m k
  decide +kernel

theorem slot_differs (u v : SetupVals) (m : Fin 6) :
    (∃ k : Fin 6, u.at (100 + 10 * m.val + k.val) ≠ v.at (100 + 10 * m.val + k.val)) ↔
      ∃ i : Fin 87, u[i] ≠ v[i] ∧ idSlot m 0 ≤ (fieldInfo i).id ∧ (fieldInfo i).id ≤ idSlot m 5 := by
  unfold SetupVals.at idSlot
  constructor
  · rintro ⟨k, h⟩
    obtain ⟨i, hi, hid⟩ := slot_field m k
    rw [hi] at h
    exact ⟨i, h, by rw [hid]; omega, by rw [hid]; omega⟩
  · rintro ⟨i, h, h0, h5⟩
    refine ⟨⟨(fieldInfo i).id - (100 + 10 * m.val), by omega⟩, ?_⟩
    have e : 100 + 10 * m.val + ((fieldInfo i).id - (100 + 10 * m.val)) = (fieldInfo i).id := by omega
    simp only [e, fieldIx_id]
    exact h

/-- A change list that names exactly the fields in which two setups differ marks the slots that differ. -/
theorem noteChanges_eq (e : Eval) (l : List Change) (u v : SetupVals)
    (h : ∀ a b : Nat, (l.any fun c => decide (a ≤ c.id ∧ c.id ≤ b)) = true ↔
      ∃ i : Fin 87, u[i] ≠ v[i] ∧ a ≤ (fieldInfo i).id ∧ (fieldInfo i).id ≤ b) :
    e.noteChanges l = { e with
      dirty := Vector.ofFn (fun m : Fin 6 =>
        e.dirty[m] || decide (∃ k : Fin 6, u.at (100 + 10 * m.val + k.val) ≠ v.at (100 + 10 * m.val + k.val))) } := by
  unfold Eval.noteChanges
  congr 2
  funext m
  congr 1
  rw [Bool.eq_iff_iff, h, decide_eq_true_iff, slot_differs]

/-- The change list of one field. -/
theorem one_change (u : SetupVals) (i : Fin 87) (v : Int) (hv : u[i] ≠ v) (a b : Nat) :
    ([(⟨(fieldInfo i).id, u[i], v⟩ : Change)].any fun c => decide (a ≤ c.id ∧ c.id ≤ b)) = true ↔
      ∃ j : Fin 87, u[j] ≠ (u.set i v)[j] ∧ a ≤ (fieldInfo j).id ∧ (fieldInfo j).id ≤ b := by
  simp only [List.any_cons, List.any_nil, Bool.or_false, decide_eq_true_iff]
  constructor
  · intro h
    exact ⟨i, by simpa using hv, h⟩
  · rintro ⟨j, hj, h⟩
    have : j = i := by
      by_contra hne
      exact hj (by simp [Fin.val_inj, Ne.symm hne])
    rwa [this] at h

/-- The change list of a replacement. -/
theorem all_changes (u v : SetupVals) (a b : Nat) :
    ((changesTo u v).any fun c => decide (a ≤ c.id ∧ c.id ≤ b)) = true ↔
      ∃ j : Fin 87, u[j] ≠ v[j] ∧ a ≤ (fieldInfo j).id ∧ (fieldInfo j).id ≤ b := by
  unfold changesTo
  simp [List.any_map, List.any_filter]

/-- A write of the live setup with its announcement, before the notice: what R11 and R16 have in common. -/
structure Written (s t : State) (u : SetupCtl) (a : SetupAnn) : Prop where
  setup : t.setup = u
  ann : Announced s t a
  frame : SetupFrame s t
  link : t.link = s.link

theorem written_of_write (s : State) (v : SetupVals) (l : List Change) (f : SetupCtl → SetupCtl) (a : SetupAnn)
    (hf : ∀ u : SetupCtl, (f u).live = u.live)
    (hl : ∀ a b : Nat, (l.any fun c => decide (a ≤ c.id ∧ c.id ≤ b)) = true ↔
      ∃ i : Fin 87, s.setup.live[i] ≠ v[i] ∧ a ≤ (fieldInfo i).id ∧ (fieldInfo i).id ≤ b) :
    Written s (((s.writeSetup v l).modSetup f).announce a) (f ⟨v, nextGen s.setup.gen, s.setup.undo⟩) a := by
  have c : Changes [.setup, .meas, .fe, .boxes] s (((s.writeSetup v l).modSetup f).announce a) :=
    (((Changes.refl _ _).writeSetup v l).modSetup f).announce a
  obtain ⟨w1, w2, w3, w4⟩ := writeSetup_spec s v l
  unfold SameOthers at w2
  refine ⟨?_, ?_, ?_, c.get .link⟩
  · show f (s.writeSetup v l).setup = _
    rw [w1]
  · unfold Announced State.announce
    simp only [State.modBoxes_boxes, State.modSetup_boxes]
    rw [w2]
    exact ⟨rfl, rfl, rfl, rfl, rfl, rfl⟩
  · have ht (id : Nat) : (((s.writeSetup v l).modSetup f).announce a).fld id = v.at id := by
      show (f (s.writeSetup v l).setup).live.at id = _
      rw [hf, w1]
    refine ⟨fun b hb => c b (fun m => hb (by revert m; cases b <;> decide)), ?_, w3, ?_⟩
    · simp only [ht]
      refine (show (((s.writeSetup v l).modSetup f).announce a).meas = (s.writeSetup v l).meas from rfl).trans (w4.trans ?_)
      have he : (s.meas.eval.map (·.noteChanges l)) = _ := congrArg (fun g => s.meas.eval.map g)
        (funext (fun e => noteChanges_eq e l s.setup.live v hl))
      rw [he]
      rfl
    unfold State.announce
    simp only [State.modBoxes_boxes, State.modSetup_boxes]
    rw [w2]
    exact ⟨rfl, rfl, rfl, rfl, rfl, rfl⟩

/-- An offer adds nothing but the notice to what has been written. -/
theorem Written.offer {s t : State} {u : SetupCtl} {a : SetupAnn} (w : Written s t u a) (n : Notice) :
    (t.offer n).setup = u ∧ Announced s (t.offer n) a ∧ SetupFrame s (t.offer n) ∧
      (t.offer n).link = (s.offer n).link := by
  have c := (Changes.refl [.link] t).offer n
  have cb : (t.offer n).boxes = t.boxes := c.get .boxes
  have cm : (t.offer n).meas = t.meas := c.get .meas
  have cf : (t.offer n).fe = t.fe := c.get .fe
  refine ⟨(offer_setup t n).trans w.setup, ?_, ⟨w.frame.1.via (by decide) c, ?_, ?_, ?_⟩, ?_⟩
  · unfold Announced; rw [cb]; exact w.ann
  · have ht (id : Nat) : (t.offer n).fld id = t.fld id := by unfold State.fld; rw [offer_setup]
    simp only [cm, ht]; exact w.frame.2.1
  · rw [cf]; exact w.frame.2.2.1
  · rw [cb]; exact w.frame.2.2.2
  · exact offer_link_congr w.link (w.frame.1.get .clock) n

/-- R12: a field change to the value that the field holds changes nothing. -/
theorem applyField_same (s : State) (i : Fin 87) (src : Source) (e : Option (Fin 12)) :
    s.applyField i s.setup.live[i] src e = s := by
  unfold State.applyField
  simp

/-- R11 from any source: the setup, the announcements, the frame; the link takes the notice of R14 alone. -/
theorem applyField_spec (s : State) (i : Fin 87) (v : Int) (src : Source) (e : Option (Fin 12))
    (h : s.setup.live[i] ≠ v) :
    (s.applyField i v src e).setup =
        ⟨s.setup.live.set i v, nextGen s.setup.gen, recordUndo s.setup.undo i s.setup.live[i] src e s.msNow⟩ ∧
      Announced s (s.applyField i v src e) ⟨[⟨(fieldInfo i).id, s.setup.live[i], v⟩], false, src, nextGen s.setup.gen⟩ ∧
      SetupFrame s (s.applyField i v src e) ∧
      (s.applyField i v src e).link =
        if src = .host then s.link
        else (s.offer (.setupChanged (fieldInfo i).id v src (nextGen s.setup.gen))).link := by
  have w (a : SetupAnn) := written_of_write s (s.setup.live.set i v) [⟨(fieldInfo i).id, s.setup.live[i], v⟩]
    (fun u => { u with undo := recordUndo u.undo i s.setup.live[i] src e s.msNow }) a (fun _ => rfl)
    (one_change s.setup.live i v h)
  have g : ((s.writeSetup (s.setup.live.set i v) [⟨(fieldInfo i).id, s.setup.live[i], v⟩]).modSetup
      (fun u => { u with undo := recordUndo u.undo i s.setup.live[i] src e s.msNow })).setup.gen = nextGen s.setup.gen := by
    rw [State.modSetup_setup, (writeSetup_spec s _ _).1]
  unfold State.applyField
  simp only [h, if_false, State.announce_setup, g]
  split
  · exact ⟨(w _).setup, (w _).ann, (w _).frame, (w _).link⟩
  · exact (w _).offer _

/-- R17: a replacement of a source that is not always applied changes nothing when no value differs. -/
theorem replaceSetup_same (s : State) (v : SetupVals) (src : Source) (r : Reason) (h : changesTo s.setup.live v = [])
    (k : src.always = false) : s.replaceSetup v src r = s := by
  unfold State.replaceSetup
  simp [h, k]

/-- R16 and R17: a replacement that is applied. -/
theorem replaceSetup_spec (s : State) (v : SetupVals) (src : Source) (r : Reason)
    (h : changesTo s.setup.live v ≠ [] ∨ src.always = true) :
    (s.replaceSetup v src r).setup =
        ⟨v, nextGen s.setup.gen, undoAfterReplacement s.setup.undo s.setup.live src⟩ ∧
      Announced s (s.replaceSetup v src r) ⟨changesTo s.setup.live v, src.always, src, nextGen s.setup.gen⟩ ∧
      SetupFrame s (s.replaceSetup v src r) ∧
      (s.replaceSetup v src r).link =
        if src = .host then s.link else (s.offer (.setupReplaced src (nextGen s.setup.gen) r)).link := by
  have hc : (changesTo s.setup.live v).isEmpty = false ∨ src.always = true := by
    rcases h with h | h
    · exact .inl (by simpa [List.isEmpty_iff] using h)
    · exact .inr h
  have hn : ((changesTo s.setup.live v).isEmpty && !src.always) = false := by
    rcases hc with h | h <;> simp [h]
  let s1 := s.modSetup (fun u => { u with undo := undoAfterReplacement u.undo u.live src })
  have w (a : SetupAnn) := written_of_write s1 v (changesTo s.setup.live v) id a (fun _ => rfl)
    (all_changes s.setup.live v)
  have g : (s1.writeSetup v (changesTo s.setup.live v)).setup.gen = nextGen s.setup.gen := by
    rw [(writeSetup_spec s1 _ _).1]
    rfl
  unfold State.replaceSetup
  simp only [hn, State.announce_setup, Bool.false_eq_true, if_false]
  rw [show ((s.modSetup _).writeSetup v _).setup.gen = nextGen s.setup.gen from g]
  have w' (a : SetupAnn) : Written s ((s1.writeSetup v (changesTo s.setup.live v)).announce a)
      ⟨v, nextGen s.setup.gen, undoAfterReplacement s.setup.undo s.setup.live src⟩ a :=
    ⟨(w a).setup, (w a).ann, ⟨((Changes.refl _ s).modSetup _).via (List.Subset.refl _) (w a).frame.1, (w a).frame.2.1,
      (w a).frame.2.2.1, (w a).frame.2.2.2⟩, (w a).link⟩
  split
  · exact ⟨(w' _).setup, (w' _).ann, (w' _).frame, (w' _).link⟩
  · exact (w' _).offer _

end Sys2Proof.Machine
end

