-- ==== Sys2Proof/Laws/Stop.lean ====
section
/-! SUPPORT. What a stop of acquisition, the withdrawal of a claim, and the ring's and the display's part of a RESET or standby
entry can do, said once each. -/

namespace Sys2Proof.Machine

/-- A reload that was deferred in POST_FILL is made at the discard of the capture (R98). -/
def Acq.reloadsAtDiscard (a : Acq) : Bool := a.cap.isSome && a.deferred

/-- The engine after the end of a capture or a claim: the capture is gone and counted, the timers stand, a deferred reload has
been made (R93, R98, R104). -/
theorem State.endWork_acq (s : State) (k : DiscardKind) :
    (s.endWork k).acq = { (if s.acq.cap.isSome then s.acq.countDiscard k else s.acq) with
      cap := none, holdoffEnd := none, autoEnd := none
      cmp := if s.acq.reloadsAtDiscard then ⟨s.acq.cmp.running, trigOf s.setup.live, false, false, none⟩ else s.acq.cmp
      deferred := s.acq.deferred && !s.acq.reloadsAtDiscard
      rateCount := if s.acq.reloadsAtDiscard then 0 else s.acq.rateCount
      gateEnd := if s.acq.reloadsAtDiscard then (if s.acq.cmp.running then some (s.clock.now + gateNs) else none)
        else s.acq.gateEnd } := by
  have g (u : State) : u.geomCheck.acq = u.acq :=
    (Changes.refl [.ring, .boxes] u).geomCheck (by decide) .acq (by decide)
  unfold State.endWork
  dsimp only
  cases hc : s.acq.cap with
  | none =>
    simp only [State.modAcq_acq, hc]
    rw [((Changes.refl [.ring, .boxes] _).withdrawClaim).get .acq]
    simp [hc, Acq.reloadsAtDiscard]
  | some c =>
    simp only [State.modAcq_acq, hc, State.freeSlot, g, State.modRing_acq, State.reloadIfDeferred]
    cases hd : s.acq.deferred <;> cases k <;> simp [Acq.countDiscard, hd, hc, State.reload, Acq.reloadsAtDiscard]

/-- With no capture in flight the end of work is the withdrawal of the claim, the timers stopped (R93, R109). -/
theorem State.endWork_claim {s : State} (k : DiscardKind) (h : s.acq.cap = none) :
    s.endWork k = ({ s with acq := { s.acq with holdoffEnd := none, autoEnd := none } } : State).withdrawClaim := by
  unfold State.endWork
  dsimp only [State.modAcq]
  split
  · rename_i c hc
    rw [h] at hc
    cases hc
  · rfl

/-- The engine after a stop of a running acquisition (R93, R101). -/
theorem State.stopAcq_acq (s : State) (k : DiscardKind) (cause : AcqCause) (h : s.acq.st ≠ .stopped) :
    (s.stopAcq k cause).acq = { (s.endWork k).acq with
      st := .stopped, pendingForce := false, holdoffEnd := none, autoEnd := none } := by
  have hs : s.stopped = false := by simp [State.stopped, h]
  have hs2 : (s.endWork k).stopped = false := by
    have : (s.endWork k).acq.st = s.acq.st := by rw [State.endWork_acq]; split <;> cases k <;> rfl
    simp [State.stopped, this, h]
  have o (u : State) (n : Notice) : (u.offer n).acq = u.acq := (Changes.refl [.link] u).offer n (by decide) .acq (by decide)
  unfold State.stopAcq State.offerAcq State.setAcqSt
  simp only [hs, hs2, o, Bool.false_eq_true, if_false, if_true, State.showGate_eq, State.modMeas_acq, State.modAcq_acq]

/-- A stop in STOPPED changes nothing (R93, R101). -/
theorem State.stopAcq_stopped (s : State) (k : DiscardKind) (cause : AcqCause) (h : s.acq.st = .stopped) :
    s.stopAcq k cause = s := by
  unfold State.stopAcq
  simp [State.stopped, h]

/-- The geometry check leaves the slots, or rebuilds them EMPTY; it makes no offer (R121, R122). -/
theorem State.geomCheck_slots (u : State) :
    (u.geomCheck.ring.slots = u.ring.slots ∨ ∃ c, u.geomCheck.ring.slots = List.replicate c .empty) ∧
      u.geomCheck.boxes.offers = u.boxes.offers := by
  have h := State.geomCheck_spec u
  by_cases a : u.geomBuilt = false ∨ u.ring.geomPending = true
  · cases b : u.ring.anyLock
    · cases c : u.ring.filling
      · rw [h.rebuilt a b c]
        exact ⟨.inr ⟨_, rfl⟩, rfl⟩
      · rw [h.filling a b c]
        exact ⟨.inl rfl, rfl⟩
    · rw [h.locked a b]
      exact ⟨.inl rfl, rfl⟩
  · rw [h.built (by simpa using (not_or.1 a).1) (by simpa using (not_or.1 a).2)]
    exact ⟨.inl rfl, rfl⟩

/-- A slot that is FILLING after another has become EMPTY, with the geometry checked, was so before; no offer is made. -/
theorem State.freeSlot_filling (s : State) (j : Nat) :
    (∀ i : Nat, (s.freeSlot j).ring.slots[i]? = some SlotSt.filling → s.ring.slots[i]? = some SlotSt.filling ∧ j ≠ i) ∧
      (s.freeSlot j).boxes.offers = s.boxes.offers := by
  obtain ⟨a, b⟩ := State.geomCheck_slots (s.modRing (fun r => { r with slots := r.slots.set j .empty }))
  refine ⟨fun i hi => ?_, b⟩
  unfold State.freeSlot at hi
  rcases a with a | ⟨n, a⟩
  · rw [a, State.modRing_ring, List.getElem?_set] at hi
    split at hi
    · split at hi <;> simp at hi
    · rename_i hne
      exact ⟨hi, hne⟩
  · rw [a, List.getElem?_replicate] at hi
    split at hi <;> simp at hi

/-- A slot that is FILLING after a withdrawal was so before and was not on offer; no offer is left on its way (R109). -/
theorem State.withdrawClaim_filling (s : State) :
    (∀ i : Nat, s.withdrawClaim.ring.slots[i]? = some SlotSt.filling →
      s.ring.slots[i]? = some SlotSt.filling ∧ i ∉ s.boxes.offers) ∧ s.withdrawClaim.boxes.offers = [] := by
  have key (l : List Nat) : ∀ u : State,
      (∀ i : Nat, (l.foldl State.freeSlot u).ring.slots[i]? = some SlotSt.filling →
        u.ring.slots[i]? = some SlotSt.filling ∧ i ∉ l) ∧ (l.foldl State.freeSlot u).boxes.offers = u.boxes.offers := by
    induction l with
    | nil => exact fun u => ⟨fun i hi => ⟨hi, List.not_mem_nil⟩, rfl⟩
    | cons j l ih =>
      intro u
      obtain ⟨p, q⟩ := ih (u.freeSlot j)
      obtain ⟨p', q'⟩ := u.freeSlot_filling j
      refine ⟨fun i hi => ?_, q.trans q'⟩
      obtain ⟨m, n⟩ := p i hi
      obtain ⟨m', n'⟩ := p' i m
      exact ⟨m', List.not_mem_cons_of_ne_of_not_mem n'.symm n⟩
  exact key _ _

/-- A slot that is FILLING after the end of a capture or a claim was so before, and was neither the capture's nor on offer to
the claim that is withdrawn (R109, R111). -/
theorem State.endWork_filling (s : State) (k : DiscardKind) :
    (∀ i : Nat, (s.endWork k).ring.slots[i]? = some SlotSt.filling →
      s.ring.slots[i]? = some SlotSt.filling ∧ (∀ c, s.acq.cap = some c → c.slot ≠ i) ∧
        (s.acq.cap = none → i ∉ s.boxes.offers)) ∧
      (s.endWork k).boxes.offers = if s.acq.cap.isSome then s.boxes.offers else [] := by
  have rl (x : State) : x.reloadIfDeferred.ring = x.ring ∧ x.reloadIfDeferred.boxes = x.boxes := by
    unfold State.reloadIfDeferred
    split <;> exact ⟨rfl, rfl⟩
  unfold State.endWork
  dsimp only
  split
  · rename_i c hc
    have hc' : s.acq.cap = some c := hc
    generalize hx : State.reloadIfDeferred _ = x
    have hs : x.ring = s.ring ∧ x.boxes = s.boxes := by
      rw [← hx]
      exact rl _
    obtain ⟨p, q⟩ := x.freeSlot_filling c.slot
    rw [hs.1] at p
    rw [hs.2] at q
    refine ⟨fun i hi => ⟨(p i hi).1, fun d hd => ?_, fun h => by rw [hc'] at h; cases h⟩, by rw [q, hc']; rfl⟩
    rw [hc'] at hd
    cases hd
    exact (p i hi).2
  · rename_i hc
    have hc' : s.acq.cap = none := hc
    obtain ⟨p, q⟩ := State.withdrawClaim_filling (s.modAcq (fun a => { a with holdoffEnd := none, autoEnd := none }))
    exact ⟨fun i hi => ⟨(p i hi).1, fun c h => (by rw [hc'] at h; cases h), fun _ => (p i hi).2⟩, by rw [q, hc']; rfl⟩

/-- With no lock held, no flag set and every slot EMPTY the geometry check leaves the live geometry built (R121, R122). -/
theorem State.geomCheck_builds (u : State) (hl : u.ring.anyLock = false) (hp : u.ring.geomPending = false)
    (he : ∀ q ∈ u.ring.slots, q = SlotSt.empty) :
    u.geomCheck.geomBuilt = true ∧ ∀ q ∈ u.geomCheck.ring.slots, q = SlotSt.empty := by
  have h := State.geomCheck_spec u
  have hf : u.ring.filling = false := by
    unfold Ring.filling
    rw [List.any_eq_false]
    intro x hx
    rw [he x hx]
    decide
  cases a : u.geomBuilt
  · rw [h.rebuilt (.inl a) hl hf]
    exact ⟨by simp [State.geomBuilt, State.liveGeom, State.fld], by simp⟩
  · rw [h.built a hp]
    exact ⟨a, he⟩

/-- R123: with no slot FILLING, the ring at a RESET request or standby entry ends with the live geometry built and every slot
EMPTY. -/
theorem State.resetRing_builds (s : State) (nf : ∀ i : Nat, s.ring.slots[i]? ≠ some SlotSt.filling) :
    s.resetRing.geomBuilt = true ∧ ∀ q ∈ s.resetRing.ring.slots, q = SlotSt.empty := by
  have hc : s.cancelPin.ring.slots = s.ring.slots := by
    unfold State.cancelPin
    split <;> rfl
  unfold State.resetRing
  dsimp only
  generalize hx : ((s.cancelPin.modRing _).announceRing .emptied) = x
  have hs : x.ring.slots = s.ring.slots.map (fun y => if y == .filling then .filling else .empty) := by
    rw [← hx, ← hc]
    rfl
  have he : ∀ q ∈ x.ring.slots, q = SlotSt.empty := by
    rw [hs]
    intro q hq
    obtain ⟨y, hy, rfl⟩ := List.mem_map.1 hq
    obtain ⟨i, hi⟩ := List.mem_iff_getElem?.1 hy
    have : y ≠ .filling := fun e => nf i (by rw [hi, e])
    simp [this]
  obtain ⟨a, b⟩ := State.geomCheck_builds x (by rw [← hx]; rfl) (by rw [← hx]; rfl) he
  rw [State.showGate_eq]
  exact ⟨a, b⟩

/-- R123: after the ring's part of a RESET request or standby entry no pin is left. -/
theorem State.resetRing_pin (s : State) : s.resetRing.ring.pin = none := by
  have hp : s.cancelPin.ring.pin = none := by
    unfold State.cancelPin
    split
    · assumption
    · rfl
  unfold State.resetRing
  dsimp only
  rw [State.showGate_eq]
  exact State.geomCheck_pin hp

/-- R167: with no pin left, the display's part of a RESET request or standby entry changes the display alone: no claim is
served. -/
theorem State.dispReset_free {s : State} (h : s.ring.pin = none) (scan : Bool) :
    s.dispReset scan = { s with disp := { s.disp with
      planes := Vector.replicate 4 [], raster := none, nd := 0, passed := 0, redraw := false, decays := 0, sel := none
      scanning := scan } } := by
  unfold State.dispReset State.endPin
  dsimp only
  cases hr : s.disp.raster with
  | none => simp only [State.modDisp, hr]
  | some r => simp [State.modDisp, h]

end Sys2Proof.Machine
end

