-- ==== Sys2Proof/Tests/Slice0.lean ====
section
/-! SUPPORT. The tests of the model: well-formedness, the worked cases of the data sheet, one step of each kind of command,
and a witness for the hypotheses of each statement. -/

set_option Elab.async false

namespace Sys2Proof.Tests

open Sys2Proof.Machine

/-- Whether a command answers a next state of which `p` holds. -/
def ran (c : Instr) (s : State) (p : State → Bool) : Bool :=
  match exec c s with
  | .next t => p t
  | _ => false

/-- ON, the link UP, everything else as a supply reset leaves it. -/
def base : State :=
  { State.reset with
    power := { State.reset.power with st := .on }, link := { State.reset.link with up := true } }

/-- `base` with a frame in transmission until 100 ns. -/
def busyTx : State := base.modLink (fun l => { l with tx := some ⟨⟨3, 0, 0x8A, 0, [0, 0, 0, 0]⟩, 100⟩ })

/-- `base` with a field of the live setup set. -/
def withField (s : State) (id : Nat) (v : Int) : State :=
  match fieldIx id with
  | some i => s.modSetup (fun u => { u with live := u.live.set i v })
  | none => s

/-- The reply in transmission, when it carries this status. -/
def sent (t : State) (st : Status) : Bool :=
  match t.link.tx with
  | some x => x.frame.status == byte st.code
  | none => false

/-- The payload of the frame in transmission. -/
def sentPayload (t : State) : List Byte :=
  match t.link.tx with
  | some x => x.frame.payload
  | none => []

/-! ### Well-formedness: an ill-formed term for each check -/

theorem test_wf_repeat_below : Instr.wf (.keyRepeat 16) = false := by decide
theorem test_wf_repeat_above : Instr.wf (.keyRepeat 35) = false := by decide
theorem test_wf_repeat_ends : Instr.wf (.keyRepeat 17) = true ∧ Instr.wf (.keyRepeat 34) = true := by decide
theorem test_wf_bad_code_that_names_a_request : Instr.wf (.dispatchBadCode 0 0x58 []) = false := by decide
theorem test_wf_bad_code_long : Instr.wf (.dispatchBadCode 0 0x7F (List.replicate 513 0)) = false := by decide +kernel
theorem test_wf_bad_code : Instr.wf (.dispatchBadCode 0 0x7F (List.replicate 512 0)) = true := by decide +kernel
theorem test_wf_request_long : Instr.wf (.draw 0 (List.replicate 513 0)) = false := by decide +kernel
theorem test_wf_request_of_wrong_length : Instr.wf (.stop 0 [1, 2, 3]) = true := by decide
theorem test_wf_frame_of_a_reply : frameWf ⟨2, 0, 0x29, 0, []⟩ = false := by decide
theorem test_decode_spells_none : decodeTableWord 32 5 = none := by decide

/-! ### Worked cases of the data sheet -/

/-- Table 24. -/
theorem test_table_24 :
    [3, 100, 505, 510, -500, -512].map (calibrate ⟨16548, 3, true⟩) =
      [(0, false), (98, false), (507, false), (511, true), (-508, false), (-512, true)] := by decide

/-- 4.5.1, the second table. -/
theorem test_calibration_rounds_away_from_zero :
    [16, -16].map (calibrate ⟨14848, 0, true⟩) = [(15, false), (-15, false)] ∧
      [511, 510].map (calibrate uncalEntry) = [(511, true), (510, false)] := by decide

/-- Table 26: span, L_eff, the exponent of D, P, Npre, start. -/
theorem test_table_26 :
    [geomOf 8 4 0 500, geomOf 14 4 0 500, geomOf 0 0 0 500, geomOf 31 0 0 500, geomOf 20 8 1 100, geomOf 12 2 2 0,
      geomOf 8 0 0 1000].map (fun g => [g.span, g.leff, g.dExp, g.p, g.npre, g.start]) =
    [[10000, 16384, 0, 10000, 8192, 3192], [1000000, 16384, 6, 15625, 8192, 380], [20, 1024, 0, 20, 512, 502],
      [500000000000, 1024, 29, 931, 512, 47], [100000000, 131072, 10, 97656, 13107, 3342],
      [200000, 4096, 6, 3125, 0, 0], [10000, 1024, 4, 625, 1024, 399]] := by decide

/-- The table of R105 for RECLEN 0, 2, 4, 7 and 8. -/
theorem test_ring_capacities :
    [capacityOf 1024 1, capacityOf 4096 1, capacityOf 4096 2, capacityOf 16384 1, capacityOf 131072 2,
      capacityOf 262144 1] = [64, 64, 32, 16, 1, 1] := by decide

/-- Four codes gathered into one interval. -/
def gathered (l : List (Int × Bool)) : Accum := (l.zip (List.range l.length)).foldl (fun a x => a.add x.2 x.1) emptyAccum

/-- Table 28, the rows in SAMPLE, PEAK and HIRES. -/
theorem test_table_28 :
    ([0, 1, 2].map (fun m => (gathered [(10, false), (13, false), (-2, false), (7, false)]).point m 4) =
      [⟨10, 10, false⟩, ⟨-2, 13, false⟩, ⟨7, 7, false⟩]) ∧
    ([0, 1, 2].map (fun m => (gathered [(-9, false), (-8, false), (-7, false), (-6, false)]).point m 4) =
      [⟨-9, -9, false⟩, ⟨-9, -6, false⟩, ⟨-8, -8, false⟩]) ∧
    ([0, 1, 2].map (fun m => (gathered [(511, true), (500, false), (498, false), (505, false)]).point m 4) =
      [⟨511, 511, true⟩, ⟨498, 511, true⟩, ⟨504, 504, true⟩]) := by decide

/-- Table 34, the kinds that use sums. -/
theorem test_table_34_sums :
    formPoints 1 [100, 120, -20, 0] [0, 1, 2, 3] 50000 1 2 = (.valid, 25000) ∧
      formPoints 2 [100, 120, -20, 0] [0, 1, 2, 3] 50000 1 2 = (.valid, 39370) ∧
      formPoints 3 [100, 120, -20, 0] [0, 1, 2, 3] 50000 1 2 = (.valid, 30414) := by decide

/-- Table 34, the extremes and the period. -/
theorem test_table_34_extremes :
    [4, 5, 6, 7].map (fun k => formPoints k [100, 120, -20, 0] [0, 1, 2, 3] 50000 1 2) =
      [(.valid, 70000), (.valid, 60000), (.valid, -10000), (.noResult, 0)] := by decide

/-- 7.2.1: the second window is ZEROED. -/
theorem test_zero_band :
    [1, 2, 3].map (fun k => formPoints k [1, -1, 2, -1] [0, 1, 2, 3] 50000 1 2) =
      [(.zeroed, 0), (.zeroed, 0), (.zeroed, 0)] := by decide

/-- 7.2.1: crossings at 10, 60 and 110 with D = 4. -/
theorem test_period_and_frequency :
    formPoints 7 [-50, 50, -50, 50, -50, 50] [5, 10, 55, 60, 105, 110] 50000 4 2 = (.valid, 200000) ∧
      formPoints 8 [-50, 50, -50, 50, -50, 50] [5, 10, 55, 60, 105, 110] 50000 4 2 = (.valid, 5000000000) := by decide

/-- 8.3.1: rows, and columns of the default geometry. -/
theorem test_mapping :
    [rowOf 299 50000 50000 (-20), rowOf 299 50000 100000 (-20), rowOf 299 50000 20000 (-20)] = [70, 145, 0] ∧
      [3191, 3192, 8192, 13191, 13192].map (fun i => columnOf i 8192 1 500 1000) = [-1, 0, 250, 499, 500] ∧
      columnOf 380 8192 64 500 100000 = 0 ∧ columnOf 16004 8192 64 500 100000 = 499 := by decide

/-- 8.3.1: the hit sets of the vectors, columns 242, 250 and 258. -/
theorem test_vectors :
    (columnHits (some 215) [(242, [210]), (250, [180]), (258, [150])]).length = 6 + 31 + 31 ∧
      (columnHits (some 215) [(242, [210])]).map (· / 500) = [210, 211, 212, 213, 214, 215] := by decide

/-- Table 36. -/
theorem test_table_36 :
    ((List.range 20).map (fun n => (Nat.repeat (decayValue 1) (n + 1) (255 : Byte)).toNat)) =
      [192, 144, 108, 81, 61, 46, 35, 27, 21, 16, 12, 9, 7, 6, 5, 4, 3, 2, 1, 0] := by decide

/-- 8.4.1: LONG. -/
theorem test_long_decay :
    [255, 248, 241, 31, 1].map (fun v => (decayValue 2 (byte v)).toNat) = [248, 241, 234, 30, 0] := by decide

/-- R175: the worked lines; a line and its reverse differ at a half. -/
theorem test_line_pixels :
    linePixels 0 0 3 1 = [(0, 0), (1, 0), (2, 1), (3, 1)] ∧ linePixels 0 0 2 1 = [(0, 0), (1, 1), (2, 1)] ∧
      linePixels 2 1 0 0 = [(2, 1), (1, 0), (0, 0)] ∧ linePixels 5 5 5 5 = [(5, 5)] := by decide

/-- The check value of the CRC that R221 describes (FFFFh, 1021h, no inversion) over the digits 1 to 9; not from the data
sheet. -/
theorem test_crc : crc16 [0x31, 0x32, 0x33, 0x34, 0x35, 0x36, 0x37, 0x38, 0x39] = 0x29B1 := by decide +kernel

/-- R177: 100 by 40 needs 520 bytes, 64 by 60 needs 480. -/
theorem test_bitmap_sizes :
    bitmapShort 100 40 (List.replicate 480 0) = true ∧ bitmapShort 64 60 (List.replicate 480 0) = false ∧
      bitmapShort 0 9 [0] = false := by decide +kernel

/-- R169 and Table 39: the ends of the ramps. -/
theorem test_palette :
    defaultColour 16 = rgb 0 0 0 ∧ defaultColour 75 = rgb 255 255 255 ∧ defaultColour 135 = rgb 255 0 0 ∧
      defaultColour 255 = rgb 0 0 255 := by decide

/-- R6: the table's ends, and an id that names nothing. -/
theorem test_fields :
    fieldIx 10 = some 0 ∧ fieldIx 170 = some 86 ∧ fieldIx 15 = none ∧ fieldIx 0 = none ∧ groupFields 13 = [80, 81, 82, 83, 84, 85, 86] := by
  decide

/-! ### Witnesses: a concrete state and operands for the hypotheses of each statement -/

/-- An announcement of one changed field. -/
def ann (id : Nat) (old new : Int) : SetupAnn := ⟨[⟨id, old, new⟩], false, .host, 1⟩

/-- An announcement that informs every block. -/
def annWhole : SetupAnn := ⟨[], true, .reset, 1⟩

/-- A geometry of four points, two of them before the trigger, two samples each. -/
def g4 : Geom := ⟨8, 1, 4, 1, 4, 2, 0⟩

/-- One point of the same value on every channel. -/
def row (v : Int) : PointRow := Vector.replicate 4 ⟨v, v, false⟩

/-- A small record. -/
def recOf (n slot : Nat) : Record :=
  { number := n, slot := slot, gen := 0, trigTime := 7, cause := .triggered, mode := 0, geom := g4, hpos := 500
    tdiv := 8, gap := 0, chans := Vector.replicate 4 ⟨true, false, true, 9, 0⟩, trig := trigOf defaultVals
    trigCal := uncalEntry, cals := Vector.replicate 4 uncalEntry, points := [row 1, row 2, row 3, row 4] }

/-- A small capture in flight in slot 0. -/
def capOf : Capture :=
  { slot := 0, gen := 0, chans := Vector.replicate 4 ⟨true, 9, 0, uncalEntry⟩, tdiv := 8, mode := 0, hpos := 500
    geom := g4, trig := trigOf defaultVals, trigCal := uncalEntry, pre := [], post := [], ivN := 0
    iv := Vector.replicate 4 emptyAccum, trigTime := 0, trigCause := .triggered, gap := 0, hit := false }

/-- `base` with acquisition in a state and a capture in flight. -/
def capturing (st : AcqSt) (c : Capture) : State :=
  base.modAcq (fun a => { a with st := st, cap := some c })

/-- `base` with records in the ring order. -/
def holding (l : List Record) (n : Nat) : State :=
  base.modRing (fun r =>
    { r with order := l, counter := n, slots := l.foldl (fun x y => x.set y.slot .held) r.slots })

/-- A payload of a field value entry. -/
def entry (id : Nat) (v : Int) : List Byte := entryBytes id v

theorem witness_StepRunsTheFrontCommand :
    ({ base with pending := [.keyScan 0, .toneEnd] } : State).pending = .keyScan 0 :: [.toneEnd] := rfl

theorem witness_DispatcherAnswersFaultyRequests :
    ((Instr.stop 1 []).frame = some ⟨1, 1, 0x29, 0, []⟩ ∧ State.reset.takes 0x29 1 [] = false) ∧
    ((Instr.stop 1 [0]).frame = some ⟨1, 1, 0x29, 0, [0]⟩ ∧ allowedLength 0x29 = some (len 0) ∧
      len 0 [(0 : Byte)].length = false ∧ base.takes 0x29 1 [0] = true) ∧
    (∀ tag code p, Instr.stop 1 [0] ≠ .dispatchBadCode tag code p) ∧
    ((0x7F : Byte).toNat ∉ requestCodes ∧ base.takes 0x7F 1 [3] = true) :=
  ⟨by decide, ⟨rfl, rfl, rfl, by decide⟩, (fun _ _ _ h => by cases h), by decide⟩

/-- A notice queue of `n` notices. -/
def withNotices (s : State) (n : Nat) : State :=
  s.modLink (fun l => { l with notices := List.replicate n (.presented 1) })

theorem witness_TransmitterServesTheQueues :
    (base.link.up = true ∧ base.link.tx = none ∧ base.link.replies = [] ∧ busyTx.link.tx.isSome = true) ∧
    (State.reset.link.up = false ∧ base.link.mask.getLsbD (Notice.knob 0 1 0).ix = true ∧
      (withNotices busyTx 31).link.notices.length < 32 ∧ 32 ≤ (withNotices busyTx 32).link.notices.length) ∧
    (busyTx.link.tx = some ⟨⟨3, 0, 0x8A, 0, [0, 0, 0, 0]⟩, 100⟩ ∧
      (busyTx.modLink (fun l => { l with replies := [⟨1, 2, .ok, []⟩] })).link.replies = ⟨1, 2, .ok, []⟩ :: [] ∧
      (withNotices busyTx 1).link.replies = [] ∧ (withNotices busyTx 1).link.notices = .presented 1 :: []) ∧
    ((∀ x ∈ busyTx.link.reservations, x.code ≠ 0x50) ∧
      (busyTx.modLink (fun l => { l with reservations := [⟨1, 0x58⟩, ⟨2, 0x50⟩] })).link.reservations =
        [⟨1, 0x58⟩] ++ ⟨2, 0x50⟩ :: [] ∧ ∀ x ∈ [(⟨1, 0x58⟩ : Reservation)], x.code ≠ 0x50) := by
  decide

theorem witness_SetFieldFollowsItsTable :
    ((entry 15 0).length = 10 ∧ base.takes 0x01 1 (entry 15 0) = true ∧ fieldIx (entryAt (entry 15 0) 0).1 = none) ∧
    (fieldIx (entryAt (entry 10 2) 0).1 = some 0 ∧ (fieldInfo 0).kind = .choice ∧
      ¬((fieldInfo 0).lo ≤ (entryAt (entry 10 2) 0).2 ∧ (entryAt (entry 10 2) 0).2 ≤ (fieldInfo 0).hi)) ∧
    (fieldIx (entryAt (entry 11 9) 0).1 = some 1 ∧ (fieldInfo 1).kind ≠ .choice ∧
      max (fieldInfo 1).lo (min (entryAt (entry 11 9) 0).2 (fieldInfo 1).hi) = base.setup.live[(1 : Fin 87)]) ∧
    (max (fieldInfo 1).lo (min (entryAt (entry 11 13) 0).2 (fieldInfo 1).hi) = 12 ∧
      (12 : Int) ≠ base.setup.live[(1 : Fin 87)]) := by
  decide

theorem witness_SetupReadsAnswer :
    ((leBytes 2 170).length = 2 ∧ base.takes 0x02 1 (leBytes 2 170) = true ∧ fieldIx (argU (leBytes 2 170) 0 2) = some 86 ∧
      fieldIx (argU (leBytes 2 171) 0 2) = none) ∧
    (base.takes 0x03 1 [13] = true ∧ argU [(13 : Byte)] 0 1 ≤ 13 ∧ 13 < argU [(14 : Byte)] 0 1) ∧
    (base.takes 0x07 1 [] = true ∧ base.setup.undo = [] ∧
      (base.modSetup (fun u => { u with undo := [.field 1 9 .host none 0] })).setup.undo =
        [] ++ [.field 1 9 .host none 0] ∧
      (base.modSetup (fun u => { u with undo := [.snapshot defaultVals] })).setup.undo =
        [] ++ [.snapshot defaultVals]) := by
  decide

/-- `base` with one entry on the undo stack. -/
def undoing (e : UndoEntry) : State := base.modSetup (fun u => { u with undo := [e] })

/-- A SET_GROUP payload. -/
def groupOfEntries (g : Byte) (l : List (Nat × Int)) : List Byte := g :: l.flatMap (fun e => entry e.1 e.2)

theorem witness_SetGroupFollowsItsChecks :
    (groupLen (groupOfEntries 14 [(10, 1)]).length = true ∧ base.takes 0x04 1 (groupOfEntries 14 [(10, 1)]) = true ∧
      13 < argU (groupOfEntries 14 [(10, 1)]) 0 1) ∧
    (entriesAt (groupOfEntries 0 [(10, 1), (10, 0)]) 1 2 = [(10, 1)] ++ (10, 0) :: [] ∧
      (10, (1 : Int)).1 ∈ [((10, 1) : Nat × Int)].map (·.1)) ∧
    (entriesAt (groupOfEntries 0 [(20, 1)]) 1 1 = [] ++ (20, 1) :: [] ∧ groupOf 20 ≠ 0) ∧
    (entriesAt (groupOfEntries 0 [(10, 2)]) 1 1 = [] ++ (10, 2) :: [] ∧ groupOf 10 = 0 ∧ fieldIx 10 ≠ none ∧
      (fieldInfo 0).hi < 2) ∧
    (entriesAt (groupOfEntries 0 [(11, 99), (10, 1)]) 1 2 = [(11, 99), (10, 1)] ∧
      ([((11, 99) : Nat × Int), (10, 1)].map (·.1)).Nodup ∧ groupOf 11 = 0 ∧ (fieldInfo 1).kind ≠ .choice) ∧
    (base.setup.live[(1 : Fin 87)] ≠ 12 ∧ entriesAt (groupOfEntries 0 [(10, 1)]) 1 1 = [(10, 1)] ∧
      base.setup.live[(0 : Fin 87)] = 1) := by
  decide

theorem witness_DefaultSetupAndUndoReplaceTheSetup :
    (base.takes 0x05 1 [] = true ∧ base.setup.live = defaultVals ∧ (withField base 11 3).setup.live ≠ defaultVals) ∧
    (base.takes 0x06 1 [] = true ∧ base.setup.undo = []) ∧
    ((undoing (.field 1 9 .host none 0)).takes 0x06 1 [] = true ∧
      (undoing (.field 1 9 .host none 0)).setup.undo = [] ++ [.field 1 9 .host none 0] ∧
      base.setup.live[(1 : Fin 87)] = 9 ∧ (undoing (.field 1 3 .host none 0)).setup.undo = [] ++ [.field 1 3 .host none 0] ∧
      (undoing (.snapshot defaultVals)).setup.undo = [] ++ [.snapshot defaultVals] ∧
      (undoing (.snapshot (withField base 11 3).setup.live)).setup.undo =
        [] ++ [.snapshot (withField base 11 3).setup.live]) ∧
    ran (.defaultSetup 1 []) (withField base 11 3) (fun t => t.takes 0x06 2 [] &&
      ran (.undo 2 []) t (fun u => decide (u.setup.live = (withField base 11 3).setup.live))) = true := by
  decide +kernel

/-- `base` with one key as given. -/
def withKey (p : Fin 64) (k : KeyState) : State :=
  base.modPanel (fun x => { x with keys := x.keys.set p k })

/-- Three corners of a rectangle DOWN, so that a press at position 9 would be a ghost. -/
def ghosted (k : KeyState) : State :=
  (withKey 9 k).modPanel (fun x =>
    let d : KeyState := ⟨true, 0, false, none⟩
    { x with keys := ((x.keys.set 10 d).set 17 d).set 18 d })

theorem witness_ScanDebouncesEveryKey :
    (State.reset.power.st = .standby ∧ base.power.st ≠ .standby) ∧
    ((withKey 9 ⟨true, 3, false, none⟩).panel.keys[(9 : Fin 64)].down = (512 : BitVec 64).getLsbD 9) ∧
    ((withKey 9 ⟨false, 3, false, none⟩).panel.keys[(9 : Fin 64)].count < 4 ∧
      4 ≤ (withKey 9 ⟨false, 4, false, none⟩).panel.keys[(9 : Fin 64)].count) ∧
    ghostAt (ghosted ⟨false, 4, false, none⟩).panel.keys 9 = true ∧
    ghostAt (withKey 9 ⟨false, 4, false, none⟩).panel.keys 9 = false ∧
    (ghosted ⟨false, 5, true, none⟩).panel.keys[(9 : Fin 64)].pendingGhost = true := by
  decide

/-- R30, R31 and R39: the fifth scan recognises a press with its action (Table 16), a ghost is held back. -/
theorem test_scan :
    ran (.keyScan 512) (withKey 9 ⟨false, 4, false, none⟩) (fun t =>
      decide (t.panel.due = [⟨9, true, 1, .channelToggle 3⟩])) = true ∧
      ran (.keyScan 512) (ghosted ⟨false, 4, false, none⟩) (fun t =>
        decide (t.panel.due = [] ∧ t.panel.keys[(9 : Fin 64)].pendingGhost = true)) = true := by
  decide +kernel

theorem witness_KeyEventsAreQueuedAndAct :
    ((base.modPanel (fun x => { x with due := [⟨1, false, 5, .none⟩] })).panel.due = ⟨1, false, 5, .none⟩ :: []) ∧
    ((withKey 34 ⟨true, 0, false, some 9⟩).panel.keys[(34 : Fin 64)].repeatAt = some 9 ∧
      ∀ d ∈ (withKey 34 ⟨true, 0, false, some 9⟩).panel.due, d.pos ≠ 34) ∧
    ((base.modPanel (fun x => { x with due := [⟨1, true, 5, .runStop⟩] })).panel.due = ⟨1, true, 5, .runStop⟩ :: []) ∧
    (base.acq.st = .stopped ∧ base.power.st = .on ∧ base.acq.fault = false ∧ (capturing .armed capOf).acq.st ≠ .stopped ∧
      (base.modAcq (fun a => { a with fault := true })).acq.fault = true ∧ base.setup.undo = []) ∧
    ((undoing (.field 1 3 .host none 0)).setup.undo = [] ++ [.field 1 3 .host none 0] ∧
      (undoing (.snapshot (withField base 11 3).setup.live)).setup.undo =
        [] ++ [.snapshot (withField base 11 3).setup.live]) ∧
    (fieldIx (idPos 3) = some 17 ∧ fieldIx (idChOn 3) = some 15 ∧ base.setup.live[(15 : Fin 87)] = 0 ∧
      fieldIx (idChOn 0) = some 0 ∧ base.setup.live[(0 : Fin 87)] = 1) ∧
    (fieldIx 63 = some 28 ∧ (withField base 60 4).fld 60 = 4 ∧ base.ring.order = [] ∧ base.fld 60 = ((0 : Fin 4).val : Int) ∧
      (holding [recOf 1 0] 1).ring.order.getLast? = some (recOf 1 0) ∧ (recOf 1 0).chans[(0 : Fin 4)].on = true ∧
      ({ recOf 1 0 with chans := Vector.replicate 4 ⟨false, false, false, 9, 0⟩ } : Record).chans[(0 : Fin 4)].on = false ∧
      (recOf 1 0).points.map (fun r => r[(0 : Fin 4)].lo) = [1, 2, 3, 4]) := by
  decide

theorem witness_KeyEventsAreQueuedAndAct_changes :
    base.setup.live[(16 : Fin 87)] = 9 ∧ base.setup.live[(16 : Fin 87)] ≠ 12 ∧ base.setup.live = defaultVals ∧
      (withField base 41 12).setup.live ≠ defaultVals := by
  decide +kernel

/-- R9, R14 and R41: a KEY change is announced and told to the host. -/
theorem test_position_zero :
    ((withField base 12 5).fireAction (.positionZero 0)).boxes.disp = [⟨[⟨12, 5, 0⟩], false, .key, 1⟩] ∧
      ((withField base 12 5).fireAction (.positionZero 0)).link.tx.map (·.frame) =
        some (Notice.setupChanged 12 0 .key 1).frame := by
  decide +kernel

/-- R22 and R41: the action UNDO restores the entry's value and announces it. -/
theorem test_undo_action :
    ((undoing (.field 1 3 .host none 0)).fireAction .undo).setup.live.at 11 = 3 ∧
      ((undoing (.field 1 3 .host none 0)).fireAction .undo).setup.undo = [] ∧
      ((undoing (.field 1 3 .host none 0)).fireAction .undo).boxes.fe = [⟨[⟨11, 9, 3⟩], false, .undo, 1⟩] := by
  decide +kernel

/-- R42: half way between 4 and 1 is 2, rounded down. -/
theorem test_level_to_mid :
    ((holding [recOf 1 0] 1).fireAction .levelToMid).setup.live.at 63 = 2 := by
  decide +kernel

theorem witness_PanelTablesAreSetAndRead :
    (base.takes 0x10 1 [] = true) ∧
    (base.takes 0x11 1 [1, 8, 0, 1] = true ∧ argU [(1 : Byte), 8, 0, 1] 1 1 = 8 ∧
      ¬(1 ≤ argU [(1 : Byte), 8, 0, 1] 2 1 ∧ argU [(1 : Byte), 8, 0, 1] 2 1 ≤ 4)) ∧
    ((63 : Fin 64).val = argU [(63 : Byte), 8, 4, 1] 0 1 ∧ (KeyAction.positionZero 3).code = argU [(63 : Byte), 8, 4, 1] 1 1 ∧
      (KeyAction.positionZero 3).channel = argU [(63 : Byte), 8, 4, 1] 2 1) ∧
    (base.takes 0x12 1 [63] = true ∧ 63 < argU [(64 : Byte)] 0 1) ∧
    (base.takes 0x13 1 [11, 10, 0, 100, 1] = true ∧ (11 : Fin 12).val = argU [(11 : Byte), 10, 0, 100, 1] 0 1 ∧
      fieldIx (argU [(11 : Byte), 10, 0, 100, 1] 1 2) ≠ none ∧ argU [(11 : Byte), 10, 0, 100, 1] 3 1 ≤ 100 ∧
      11 < argU [(12 : Byte), 10, 0, 100, 1] 0 1 ∧ fieldIx (argU [(11 : Byte), 9, 0, 100, 1] 1 2) = none ∧
      100 < argU [(11 : Byte), 10, 0, 101, 1] 3 1 ∧ argU [(11 : Byte), 10, 0, 0, 1] 3 1 < 1) ∧
    (base.takes 0x14 1 [11] = true) := by
  decide

/-- `base` with encoder 3 as given. -/
def withEnc (x : Encoder) : State := base.modPanel (fun p => { p with encs := p.encs.set 3 x })

theorem witness_EncodersCountAndApply :
    (State.reset.power.st = .standby ∧ base.power.st ≠ .standby) ∧
    ((withEnc ⟨false, false, 3, 0, none⟩).panel.encs[(3 : Fin 12)].sub = 3 ∧
      (withEnc ⟨false, false, -3, 0, none⟩).panel.encs[(3 : Fin 12)].sub = -3 ∧
      (withEnc ⟨false, false, 2, 0, none⟩).panel.encs[(3 : Fin 12)].sub ≠ 3) ∧
    ((withEnc ⟨false, false, 0, 0, some ⟨9, 0⟩⟩).panel.encs[(3 : Fin 12)].window = some ⟨9, 0⟩) ∧
    (base.panel.bindings[(11 : Fin 12)].field = none ∧ base.panel.bindings[(3 : Fin 12)].field = some 16 ∧
      base.panel.bindings[(9 : Fin 12)].field = some 21 ∧ (fieldInfo 21).kind = .number ∧
      base.panel.bindings[(9 : Fin 12)].accel = true) ∧
    (max (fieldInfo 16).lo (min (base.setup.live[(16 : Fin 87)] + 3 * 1 * 1) (fieldInfo 16).hi) = 12 ∧
      base.setup.live[(16 : Fin 87)] ≠ 12) ∧
    ((withField base 41 12).setup.live[(16 : Fin 87)] = 12 ∧
      max (fieldInfo 16).lo (min (12 + 1 * 1 * 1) (fieldInfo 16).hi) = (12 : Int)) ∧
    (base.panel.tone = none ∧ base.msNow ≤ 0 + 1000 ∧ base.setup.undo.length < 16) := by
  decide

/-- R44 and R45: the fourth forward step is a detent and opens a window; R47: it moves VDIV of CH4 by one. -/
theorem test_detent :
    ran (.encoderTransition 3 false true) (withEnc ⟨false, false, 3, 0, none⟩) (fun t =>
      decide (t.panel.encs[(3 : Fin 12)] = ⟨false, true, 0, 0, some ⟨20000000, 1⟩⟩) &&
        ran (.encoderWindowEnd 3) t (fun u => decide (u.setup.live.at 41 = 10 ∧ u.clock.now = 20000000))) = true := by
  decide +kernel

theorem witness_LedsShowTheirSourcesAndOverrides :
    (base.power.st = .on ∧ base.acq.st = .stopped ∧ base.fld 10 = 1 ∧ base.fld 20 = 0 ∧ State.reset.power.st = .standby) ∧
    (base.takes 0x15 1 [11, 2] = true ∧ (11 : Fin 12).val = argU [(11 : Byte), 2] 0 1 ∧
      LedOverride.forceOff.code = argU [(11 : Byte), 2] 1 1 ∧ 2 < argU [(11 : Byte), 3] 1 1) ∧
    (23 < argU [(24 : Byte), 0] 0 1 ∧ (11 : Fin 12).val + 12 = argU [(23 : Byte), 1] 0 1 ∧
      argU [(23 : Byte), 1] 1 1 ≤ 1 ∧ 1 < argU [(12 : Byte), 2] 1 1) := by
  decide

theorem witness_TonesAndBlinkRunAndEnd :
    (base.takes 0x17 1 [0, 0, 1, 0] = true ∧ base.panel.tone = none) ∧
    ((base.modPanel (fun p => { p with tone := some ⟨2, 440, 9⟩ })).panel.tone = some ⟨2, 440, 9⟩) ∧
    ((base.modPanel (fun p => { p with blinkEnd := some 9 })).panel.blinkEnd = some 9) := by
  decide

/-- R55: a frequency of 0 is clamped to 100 Hz. -/
theorem test_beep_clamps :
    ran (.beep 1 [0, 0, 1, 0]) base (fun t => sent t .clamped && decide (t.panel.tone = some ⟨2, 100, 1000000⟩)) = true ∧
      ran (.toneEnd) (base.modPanel (fun p => { p with tone := some ⟨2, 440, 9⟩ })) (fun t =>
        decide (t.panel.tone = none ∧ t.clock.now = 9)) = true := by
  decide +kernel

/-- `base` with the front end as given. -/
def withFe (f : FrontEnd → FrontEnd) : State := base.modFe f

/-- The front end READY. -/
def feReady : State := withFe (fun f => { f with cond := .up, latched := base.requiredWords, readyShown := true })

theorem witness_ReadinessFollowsTheWords :
    (base.feReadyNow = false ∧ base.fe.readyShown = false) ∧ (feReady.feReadyNow = true ∧ feReady.fe.readyShown = true) ∧
    ((withField feReady 11 3).feReadyNow = false ∧ (withField feReady 11 3).fe.readyShown = true) ∧
    (feReady.modFe (fun f => { f with readyShown := false })).feReadyNow = true := by
  decide

/-- A transfer of the required words. -/
def xfer (full final : Bool) : Transfer := ⟨base.requiredWords, full, final, 4000⟩

/-- `s` with announcements on their way to the front end. -/
def toFe (s : State) (l : List SetupAnn) : State := s.modBoxes (fun b => { b with fe := l })

theorem witness_FrontEndTransfersAndLatches :
    ((toFe base [ann 11 9 3]).boxes.fe = ann 11 9 3 :: [] ∧ base.fe.cond ≠ .up) ∧
    (feReady.fe.cond = .up ∧ feReady.fe.port = none ∧ feReady.fe.latched = feReady.requiredWords ∧
      (ann 11 9 3).whole = false ∧ annWhole.whole = true ∧
      (withField feReady 11 3).fe.latched ≠ (withField feReady 11 3).requiredWords) ∧
    ((feReady.modFe (fun f => { f with port := some (xfer false false) })).fe.port ≠ none) ∧
    ((xfer false true).final = true ∧ (xfer false false).final = false ∧ feReady.fe.fullOwed = false ∧
      (xfer true false).words = feReady.requiredWords ∧ (xfer false false).words ≠ (withField feReady 11 3).requiredWords) := by
  decide

theorem witness_FrontEndTimersAndFeReadyAct :
    ((withFe (fun f => { f with settleEnd := some 9 })).fe.settleEnd = some 9) ∧
    ((withFe (fun f => { f with cond := .waitReady, waitEnd := some 9 })).fe.waitEnd = some 9 ∧
      base.store.st = .idle ∧ ¬(base.power.st = .poweringUp ∧ base.power.upStep = .feWait) ∧
      ((base.modPower (fun p => { p with st := .poweringUp })).power.st = .poweringUp ∧ base.power.upStep = .feWait)) ∧
    (base.pins.feReady = false ∧ base.fe.cond = .off ∧ base.fe.port = none ∧ base.fe.readyShown = false ∧
      (withFe (fun f => { f with cond := .fault })).fe.cond = .fault ∧
      (withFe (fun f => { f with cond := .waitReady })).fe.cond = .waitReady) ∧
    ((feReady.modPins (fun p => { p with feReady := true })).pins.feReady = true ∧ feReady.fe.cond = .up ∧
      feReady.fe.port.isNone = true) ∧
    ((feReady.modFe (fun f => { f with port := some (xfer false true) })).fe.port = some (xfer false true) ∧
      (feReady.modFe (fun f => { f with port := some (xfer false true) })).fe.cond = .up) := by
  decide

/-- R65: FE_READY falls in UP. -/
theorem test_fe_ready_falls :
    ran .feReadyFall (feReady.modPins (fun p => { p with feReady := true })) (fun t =>
      decide (t.fe.cond = .fault ∧ t.boxes.settle = [true] ∧ t.boxes.fault = [true])) = true := by
  decide +kernel

/-- The comparator of the default trigger: level 0, hysteresis 3. -/
def cmpOf (rise fall : Bool) : Comparator := ⟨true, trigOf defaultVals, rise, fall, none⟩

theorem witness_CodesAreCalibratedAndCompared :
    ((cmpOf true false).atCode 0 = (cmpOf false false, [true]) ∧ (cmpOf false true).atCode 0 = (cmpOf false false, [false])) ∧
    ((cmpOf false false).atCode (-3) = (cmpOf true false, []) ∧ (cmpOf false false).atCode (-2) = (cmpOf false false, []) ∧
      (cmpOf false false).atCode 3 = (cmpOf false true, []) ∧ (cmpOf false true).atCode 2 = (cmpOf false true, [])) := by
  decide

/-- `base` with a fault flag. -/
def faulty : State := base.modAcq (fun a => { a with fault := true })

/-- `base` in an acquisition state with slot 0 on offer. -/
def offering (st : AcqSt) : State :=
  ((base.modAcq (fun a => { a with st := st })).modRing (fun r => { r with slots := r.slots.set 0 .filling })).modBoxes
    (fun b => { b with offers := [0] })

theorem witness_AcquisitionStartsAndStops :
    (base.takes 0x28 1 [] = true ∧ base.takes 0x2A 1 [] = true ∧ faulty.takes 0x28 1 [] = true ∧ faulty.acq.fault = true) ∧
    (base.power.st = .on ∧ base.acq.fault = false ∧ base.acq.st = .stopped ∧ (capturing .armed capOf).acq.st ≠ .stopped ∧
      base.feReadyNow = false ∧ base.fld idSegmented ≠ 1 ∧ (withField base 54 1).fld idSegmented = 1) ∧
    (base.takes 0x29 1 [] = true ∧ (capturing .armed capOf).takes 0x29 1 [] = true ∧ base.boxes.offers = [] ∧
      (offering .waitSlot).takes 0x29 1 [] = true ∧ (offering .waitSlot).acq.cap = none ∧
      (offering .waitSlot).acq.st ≠ .stopped ∧ (offering .waitSlot).boxes.offers = [0]) ∧
    ((base.modBoxes (fun b => { b with failStops := 1 })).boxes.failStops = 0 + 1 ∧
      (base.modBoxes (fun b => { b with fault := [true] })).boxes.fault = true :: [] ∧
      (base.modBoxes (fun b => { b with fault := [false] })).boxes.fault = false :: []) := by
  decide

theorem witness_AcquisitionStartsAndStops_segments :
    ((holding [recOf 1 0, recOf 2 1] 2).modRing (fun r => { r with lock1 := some 2, pin := some 1 })).ring.order =
        [recOf 1 0, recOf 2 1] ∧
      ((capturing .postFill capOf).modAcq (fun a => { a with deferred := true })).acq.deferred = true ∧
      (capturing .postFill capOf).acq.cap.isSome = true ∧ (capturing .armed capOf).acq.deferred = false := by
  decide +kernel

/-- R120: the record without a lock is discarded, and its pin is cancelled first. -/
theorem test_segmented_discard :
    let s := ((holding [recOf 1 0, recOf 2 1] 2).modRing (fun r =>
      { r with lock1 := some 2, pin := some 1 })).segmentedDiscard
    s.ring.order = [recOf 2 1] ∧ s.ring.slots[0]? = some .empty ∧ s.ring.slots[1]? = some .held ∧ s.ring.pin = none ∧
      s.boxes.measRing = [.discard 1] ∧ s.boxes.dispRing = [.pinCancelled 1, .discard 1] := by
  decide +kernel

/-- R98 and R100: a STOP in POST_FILL makes the deferred reload, at which the rate gate starts afresh. -/
theorem test_stop_reloads :
    ran (.stop 1 []) ((capturing .postFill capOf).modAcq (fun a =>
      { a with deferred := true, rateCount := 5, cmp := cmpOf true false })) (fun t =>
        decide (t.acq.deferred = false ∧ t.acq.rateCount = 0 ∧ t.acq.gateEnd = some 1000000000 ∧
          t.acq.cmp.risePrimed = false)) = true := by
  decide +kernel

/-- R92 and R78: RUN with the front end not ready leads to SETTLING. -/
theorem test_run : ran (.run 1 []) base (fun t => decide (t.acq.st = .settling ∧ t.acq.mode = .run)) = true := by
  decide +kernel

/-- R93: STOP discards the capture in flight and frees its slot. -/
theorem test_stop :
    ran (.stop 1 []) ((capturing .armed capOf).modRing (fun r => { r with slots := r.slots.set 0 .filling })) (fun t =>
      decide (t.acq.st = .stopped ∧ t.acq.cap = none ∧ t.acq.discStop = 1 ∧ t.ring.slots[0]? = some SlotSt.empty)) = true := by
  decide +kernel

theorem witness_ForceAndTimersTriggerAndArm :
    (base.takes 0x2B 1 [] = true ∧ base.acq.st ∈ [AcqSt.stopped, .waitSlot, .pausedGeometry, .postFill, .commitWait] ∧
      (capturing .preFill capOf).acq.st = .preFill ∧ (capturing .settling capOf).acq.st = .settling) ∧
    ((capturing .armed capOf).acq.cap = some capOf ∧ capOf.ivN < 2 ^ capOf.geom.dExp ∧
      ({ capOf with ivN := 1 } : Capture).ivN < 2 ^ capOf.geom.dExp) ∧
    (((capturing .armed capOf).modAcq (fun a => { a with autoEnd := some 9 })).acq.autoEnd = some 9 ∧
      ((capturing .preFill capOf).modAcq (fun a => { a with holdoffEnd := some 9 })).acq.holdoffEnd = some 9 ∧
      base.acq.lastTrig = none ∧ capOf.pre.length < capOf.geom.npre ∧
      capOf.geom.npre ≤ ({ capOf with pre := [row 1, row 2] } : Capture).pre.length ∧ base.acq.pendingForce = false) ∧
    (ran .intervalComplete ((capturing .armed { capOf with ivN := 2 }).modAcq (fun a => { a with autoEnd := some 9 }))
        (fun u => decide (u.acq.st = .armed ∧ u.acq.cap.map (·.ivN) = some 0 ∧ u.acq.autoEnd = some 9)) = true ∧
      (capturing .armed { capOf with ivN := 2 }).takes 0x2B 1 [] = true) ∧
    ((base.modAcq (fun a => { a with gateEnd := some 9 })).acq.gateEnd = some 9) := by
  decide

/-- R86 and R88: a force in ARMED. -/
theorem test_force :
    ran (.forceTrigger 1 []) (capturing .armed capOf) (fun t =>
      sent t .ok && decide (t.acq.st = .postFill ∧ t.acq.cap.map (·.trigCause) = some .forced)) = true := by
  decide +kernel

/-- Sixteen records, each in its slot. -/
def sixteen : List Record := (List.range 16).map (fun i => recOf (i + 1) i)

theorem witness_CaptureStartsByReadinessAndClaim :
    ((capturing .settling capOf).acq.st ≠ .stopped ∧ base.feReadyNow = false ∧ feReady.feReadyNow = true) ∧
    ((base.modRing (fun r => { r with geomPending := true, lock1 := some 1 })).ring.anyLock = true ∧
      (withField feReady 52 5).geomBuilt = false) ∧
    (feReady.ring.geomPending = false ∧ feReady.geomBuilt = true ∧ feReady.ring.counter ≠ 4294967295 ∧
      feReady.ring.slots[0]? = some SlotSt.empty ∧ 0 < feReady.liveGeom.npre) ∧
    ((holding sixteen 16).ring.slots = List.replicate 16 .held ∧
      ∀ x ∈ ((holding [recOf 1 0] 1).modRing (fun r => { r with lock1 := some 1 })).ring.order, x.number = 1) ∧
    ((holding sixteen 16).ring.order = [] ++ recOf 1 0 :: (sixteen.drop 1) ∧ (holding sixteen 16).ring.lock1 ≠ some 1 ∧
      (holding sixteen 16).ring.pin ≠ some 1) ∧
    ((feReady.modRing (fun r => { r with counter := 4294967295 })).ring.counter = 4294967295 ∧
      (withField feReady 51 0).liveGeom.npre = 0 ∧ feReady.acq.lastTrig = none ∧ feReady.fld 65 = 0) ∧
    ((withField feReady 52 5).feReadyNow = true ∧ (withField feReady 52 5).geomBuilt = false ∧
      (withField feReady 52 5).ring.anyLock = false ∧ (withField feReady 52 5).ring.filling = false ∧
      (withField feReady 52 5).ring.counter ≠ 4294967295 ∧
      0 < min 64 (262144 / ((withField feReady 52 5).liveGeom.leff * (withField feReady 52 5).liveGeom.w)) ∧
      ((withField feReady 52 5).modRing (fun r => { r with slots := [.filling] })).ring.filling = true ∧
      ((withField feReady 52 5).modRing (fun r => { r with counter := 4294967295 })).ring.counter = 4294967295) ∧
    ((3 : Fin 52).val = 13 * 0 + (3 : Int).toNat ∧ (withField base 11 3).fld (10 * (0 + 1) + 1) = 3 ∧
      base.fld (10 * (0 + 1)) = 1 ∧ base.fld 60 = ((0 : Fin 4).val : Int)) ∧
    ((offering .waitSlot).boxes.offers = [0] ∧ (offering .waitSlot).acq.st = .waitSlot ∧
      (offering .settling).acq.st ≠ .waitSlot) := by
  decide +kernel

/-- R108: with every slot held, a claim discards the oldest record. -/
theorem test_claim_discards :
    (((feReady.modRing (fun _ => (holding sixteen 16).ring)).modAcq (fun a => { a with st := .settling })).startCapture).boxes.measRing =
      [.discard 1] := by
  decide +kernel

/-- R108 and R122: a claim under another geometry rebuilds the ring at once and is granted slot 0. -/
theorem test_claim_rebuilds :
    (((withField feReady 52 5).modAcq (fun a => { a with st := .settling })).startCapture).ring.slots =
      .filling :: List.replicate 7 .empty := by
  decide +kernel

/-- R109: an offer is taken in WAIT_SLOT and declined in SETTLING. -/
theorem test_offer :
    ran (.sample 0 0 0 0 false) (offering .waitSlot) (fun t =>
        decide (t.acq.st = .preFill ∧ t.acq.cap.map (·.slot) = some 0 ∧ t.boxes.offers = [])) = true ∧
      ran (.sample 0 0 0 0 false) (offering .settling) (fun t =>
        decide (t.acq.st = .settling ∧ t.ring.slots[0]? = some SlotSt.empty ∧ t.boxes.offers = [])) = true := by
  decide +kernel

theorem witness_EngineAnnouncementsAreTaken :
    ((base.modBoxes (fun b => { b with settle := [true] })).boxes.settle = true :: [] ∧ base.acq.st = .stopped ∧
      base.acq.cap = none ∧ (base.modAcq (fun a => { a with st := .waitSlot })).acq.st = .waitSlot ∧
      base.boxes.offers = [] ∧ (offering .waitSlot).boxes.offers = [0] ∧ (offering .waitSlot).acq.cap = none) ∧
    ((capturing .commitWait capOf).acq.st.inFlight = true ∧ (capturing .commitWait capOf).acq.cap = some capOf ∧
      (capturing .commitWait capOf).feReadyNow = false) ∧
    ((base.modBoxes (fun b => { b with settle := [false] })).boxes.settle = false :: [] ∧
      (base.modAcq (fun a => { a with st := .settling })).acq.st = .settling) ∧
    ((base.modBoxes (fun b => { b with gateOpens := 1, rebuilds := 1 })).boxes.gateOpens = 0 + 1 ∧
      (base.modBoxes (fun b => { b with gateOpens := 1, rebuilds := 1 })).boxes.rebuilds = 0 + 1 ∧
      base.acq.st ≠ .commitWait ∧ (base.modAcq (fun a => { a with st := .pausedGeometry })).acq.st = .pausedGeometry) := by
  decide

/-- `s` with announcements on their way to the engine. -/
def toAcq (s : State) (l : List SetupAnn) : State := s.modBoxes (fun b => { b with acq := l })

theorem witness_SetupChangesActOnTheCapture :
    ((toAcq base [ann 63 0 5, ann 11 9 3]).boxes.acq.find? SetupAnn.isFe = some (ann 11 9 3) ∧
      (toAcq base [ann 50 8 9]).boxes.acq.find? SetupAnn.isAcq = some (ann 50 8 9) ∧
      (toAcq base [ann 52 4 5]).boxes.acq.find? SetupAnn.isGeom = some (ann 52 4 5)) ∧
    ((ann 54 0 1).isAcq = true ∧ (∃ ch ∈ (ann 54 0 1).changes, ch.id = 54 ∧ ch.new = 1) ∧
      ¬(∃ ch ∈ (ann 54 1 0).changes, ch.id = 54 ∧ ch.new = 1) ∧ base.boxes.ring = []) ∧
    ((capturing .preFill capOf).acq.st.inFlight = true ∧ (capturing .commitWait capOf).acq.st.inFlight = true ∧
      (ann 52 4 5).isFe = false ∧ (ann 11 9 3).isGeom = false) ∧
    ((toAcq base [ann 63 0 5]).boxes.acq.find? SetupAnn.isTrig = some (ann 63 0 5) ∧ (ann 63 0 5).isFe = false ∧
      (ann 63 0 5).isAcq = false ∧ (ann 63 0 5).isGeom = false ∧
      (capturing .postFill capOf).acq.st = .postFill ∧ (capturing .armed capOf).acq.cap = some capOf ∧
      base.fld 60 = ((0 : Fin 4).val : Int) ∧ capOf.pre.length < capOf.geom.npre) := by
  decide +kernel

theorem witness_SetupChangesActOnTheCapture_discard :
    base.acq.cap = none ∧ base.boxes.offers = [] ∧ (offering .waitSlot).acq.cap = none ∧
      (offering .waitSlot).boxes.offers = [0] ∧ (capturing .armed capOf).acq.cap = some capOf ∧ base.geomBuilt = true ∧
      base.ring.geomPending = false ∧ (base.modRing (fun r => { r with leff := 1 })).geomBuilt = false ∧
      base.ring.anyLock = false ∧ base.ring.filling = false ∧
      (base.modRing (fun r => { r with lock1 := some 1 })).ring.anyLock = true ∧
      (base.modRing (fun r => { r with slots := [.filling] })).ring.filling = true := by
  decide +kernel

/-- `s` with an announcement on its way to the ring. -/
def toRing (s : State) (l : List SetupAnn) : State := s.modBoxes (fun b => { b with ring := l })

theorem witness_GeometryChangeRebuildsTheRing :
    ((toRing base [ann 52 4 5]).boxes.ring = ann 52 4 5 :: [] ∧ base.geomBuilt = true ∧ base.ring.geomPending = false) ∧
    ((withField base 52 5).geomBuilt = false ∧ (withField base 52 5).ring.anyLock = false ∧
      (withField base 52 5).ring.filling = false) ∧
    ((base.modRing (fun r => { r with lock2 := some 1 })).ring.anyLock = true ∧
      (base.modRing (fun r => { r with slots := [.filling] })).ring.filling = true) := by
  decide +kernel

/-- R105 and R122: a rebuild to RECLEN 5 gives eight slots. -/
theorem test_rebuild :
    ran (.geomClassChange .ringOnly) (toRing (withField base 52 5) [ann 52 4 5]) (fun t =>
      decide (t.ring.cap = 8 ∧ t.ring.slots = List.replicate 8 .empty ∧ t.boxes.rebuilds = 1)) = true := by
  decide +kernel

/-- ARMED with a running comparator, primed for a rising edge on CH1. -/
def armed : State :=
  ((capturing .armed capOf).modAcq (fun a => { a with cmp := cmpOf true false })).modFe
    (fun f => { f with latched := base.requiredWords })

/-- `armed` with the comparator as given. -/
def comparing (k : Comparator) : State := armed.modAcq (fun a => { a with cmp := k })

/-- A comparator loaded for a PULSE, with a last crossing that fell at 0. -/
def pulseCmp (wcond width : Int) : Comparator :=
  ⟨true, { trigOf defaultVals with type := 1, slope := 1, wcond := wcond, width := width }, true, false, some ⟨false, 0⟩⟩

theorem witness_SamplesAndIntervalsBuildTheCapture :
    (armed.boxes.offers = [] ∧ armed.acq.cap = some capOf ∧ capOf.ivN < 2 ^ capOf.geom.dExp ∧
      ({ capOf with ivN := 1 } : Capture).ivN < 2 ^ capOf.geom.dExp ∧ armed.acq.cmp.fallPrimed = false) ∧
    (base.acq.cmp.running = false ∧ armed.acq.cmp.running = true ∧ armed.acq.cmp.loaded.src = ((0 : Fin 4).val : Int) ∧
      armed.fe.latched[(0 : Fin 4)].power = true ∧ (capturing .armed capOf).fe.latched[(0 : Fin 4)].power = false) ∧
    (armed.acq.cmp.atCode (-1) = (armed.acq.cmp, []) ∧ armed.acq.cmp.atCode 0 = (cmpOf false false, [true]) ∧
      armed.acq.cmp.loaded.type = 0 ∧ armed.acq.cmp.loaded.slope ≠ 1 ∧ armed.acq.st = .armed) ∧
    ((comparing ⟨true, { trigOf defaultVals with slope := 1 }, true, false, none⟩).acq.cmp.loaded.slope = 1) ∧
    ((pulseCmp 0 1000).loaded.type ≠ 0 ∧ (pulseCmp 0 1000).last = some ⟨false, 0⟩ ∧ (pulseCmp 0 1000).loaded.slope ≠ 0 ∧
      (((0 + 2 ^ 64 - 0) % 2 ^ 64 : Nat) : Int) < (pulseCmp 0 1000).loaded.width ∧
      (pulseCmp 1 (-1)).loaded.width < (((0 + 2 ^ 64 - 0) % 2 ^ 64 : Nat) : Int)) ∧
    ((comparing ⟨true, { trigOf defaultVals with src := 4 }, false, false, none⟩).acq.cmp.loaded.src = 4 ∧
      base.pins.ext = false) ∧
    ((capturing .postFill { capOf with hit := true, post := [row 1, row 2] }).acq.st ≠ .armed ∧ base.acq.cap = none ∧
      base.acq.st ∉ [AcqSt.preFill, .armed, .postFill]) ∧
    (2 ^ capOf.geom.dExp ≤ ({ capOf with ivN := 2 } : Capture).ivN) := by
  decide +kernel

/-- R84: a negative pulse that is narrow enough triggers, and one that is too wide does not. -/
theorem test_pulse :
    ran (.sample 0 0 0 0 false) (comparing (pulseCmp 0 1)) (fun t => decide (t.acq.st = .postFill ∧ t.acq.rateCount = 1)) = true ∧
      ran (.sample 0 0 0 0 false) (comparing (pulseCmp 0 0)) (fun t =>
        decide (t.acq.st = .armed ∧ t.acq.cmp.last = some ⟨true, 0⟩)) = true := by
  decide +kernel

/-- R85: the last point of the pre-trigger store arms the capture; TMODE is AUTO. -/
theorem test_interval :
    ran .intervalComplete (capturing .preFill { capOf with pre := [row 1, row 2], ivN := 2 }) (fun t =>
      decide (t.acq.st = .armed ∧ t.acq.autoEnd = some 100000008 ∧ t.acq.cap.map (·.pre) = some [row 2, row 0])) = true := by
  decide +kernel

/-- R83 and R86: a rising edge through the level triggers. -/
theorem test_edge :
    ran (.sample 0 0 0 0 false) armed (fun t =>
      decide (t.acq.st = .postFill ∧ t.clock.now = 1 ∧ t.acq.cap.map (·.hit) = some true)) = true := by
  decide +kernel

/-- A complete capture in POST_FILL, in run mode SINGLE. -/
def complete : State :=
  (capturing .postFill { capOf with hit := true, pre := [row 1, row 2], post := [row 3, row 4] }).modAcq
    (fun a => { a with mode := .single })

theorem witness_CompleteCaptureIsCommitted :
    (complete.acq.st = .postFill ∧ complete.acq.deferred = false ∧ complete.gateShutNow = false ∧ complete.mayCommit = true ∧
      complete.acq.mode = .single ∧ complete.ring.geomPending = false ∧ complete.geomBuilt = true) ∧
    ((((complete.modMeas (fun m => { m with failFlag := true })).modSetup (fun u =>
      { u with live := (withField base 161 1).setup.live })).gateShutNow) = true) ∧
    ((complete.modAcq (fun a => { a with st := .commitWait })).acq.st = .commitWait ∧
      (complete.modBoxes (fun b => { b with gateOpens := 1 })).boxes.gateOpens = 0 + 1 ∧ complete.meas.gateShut = false) ∧
    ((toAcq complete [ann 11 9 3]).boxes.acq = [ann 11 9 3] ∧ (ann 11 9 3).isFe = true ∧ (toFe complete [annWhole]).boxes.fe = [annWhole] ∧
      annWhole.whole = true ∧ true ∈ (complete.modBoxes (fun b => { b with settle := [true] })).boxes.settle) ∧
    ((complete.modAcq (fun a => { a with mode := .run })).acq.mode = .run ∧ (withField complete 54 1).fld 54 = 1 ∧
      complete.ring.order.length + 1 ≠ complete.ring.cap ∧
      (complete.modRing (fun r => { r with cap := 1 })).ring.order.length + 1 = (complete.modRing (fun r => { r with cap := 1 })).ring.cap ∧
      (complete.modAcq (fun a => { a with deferred := true })).acq.deferred = true) := by
  decide +kernel

/-- R90: a RUN with SEGMENTED on and the last slot filled stops. -/
theorem test_segments_full :
    ran (.captureComplete false false) ((withField (complete.modAcq (fun a => { a with mode := .run })) 54 1).modRing (fun r =>
      { r with cap := 1 })) (fun t => decide (t.acq.st = .stopped ∧ t.ring.counter = 1)) = true := by
  decide +kernel

/-- R89, R90 and R110: the commit of a SINGLE capture. -/
theorem test_commit :
    ran (.captureComplete false false) complete (fun t =>
      decide (t.acq.st = .stopped ∧ t.ring.counter = 1 ∧ t.ring.order.map (·.points) = [[row 1, row 2, row 3, row 4]])) = true := by
  decide +kernel

/-- A ring of one slot whose record is locked, with a claim that waits for a slot. -/
def claiming : State :=
  (base.modAcq (fun a => { a with st := .waitSlot })).modRing (fun r =>
    { r with cap := 1, slots := [.held], order := [recOf 1 0], counter := 1, lock1 := some 1, waitSlot := true })

theorem witness_HostLocksHoldServeAndRelease :
    (base.takes 0x30 1 [0, 0, 0, 0] = true ∧ argU [(0 : Byte), 0, 0, 0] 0 4 = 0 ∧ base.ring.order.getLast? = none ∧
      (holding [recOf 1 0] 1).ring.order.getLast? = some (recOf 1 0) ∧
      (holding [recOf 1 0] 1).ring.order.find? (fun x => x.number == argU [(1 : Byte), 0, 0, 0] 0 4) = some (recOf 1 0) ∧
      base.ring.lock1 = none ∧ base.ring.lock2 = none) ∧
    (base.takes 0x32 1 [2] = true ∧ (base.modRing (fun r => { r with lock2 := some 1 })).ring.lock2 ≠ none ∧
      (base.modRing (fun r => { r with lock2 := some 1, geomPending := true })).ring.geomPending = true ∧
      base.ring.waitSlot = false ∧ base.ring.filling = false ∧
      claiming.ring.waitSlot = true ∧ claiming.acq.st = .waitSlot ∧ claiming.ring.geomPending = false ∧ claiming.ring.lock1 = some 1 ∧
      claiming.ring.lock2 = none ∧ claiming.ring.pin = none ∧ claiming.ring.slots = [.held] ∧
      claiming.ring.order = [] ++ recOf 1 0 :: [] ∧ claiming.ring.slots[(recOf 1 0).slot]? = some .held) ∧
    (base.takes 0x31 1 [1, 4, 3, 0, 0, 0, 9, 0] = true ∧ argU [(1 : Byte), 4, 3, 0, 0, 0, 9, 0] 2 4 < (recOf 1 0).geom.leff ∧
      (recOf 1 0).geom.leff ≤ argU [(1 : Byte), 4, 4, 0, 0, 0, 9, 0] 2 4 ∧ (3 : Fin 4).val + 1 = 4 ∧
      (recOf 1 0).chans[(3 : Fin 4)].on = true ∧ ¬(1 ≤ 5 ∧ 5 ≤ 4)) := by
  decide +kernel

/-- R117, R109 and R78: the release serves the claim that waits, though the geometry is no longer the built one, and the
engine takes the slot in the same step. -/
theorem test_release :
    ran (.releaseRecord 1 ⟨[1], false⟩) (claiming.modRing (fun r => { r with leff := 1 })) (fun t =>
      decide (t.acq.st = .preFill ∧ t.acq.cap.map (·.slot) = some 0 ∧ t.boxes.offers = [] ∧ t.ring.slots = [.filling] ∧
        t.ring.waitSlot = false)) = true := by
  decide +kernel

/-- R109: a release and a STOP fall together, the release first: the offer is made and then declined, its slot is EMPTY, and
the record discarded for it is not restored. -/
theorem test_release_then_withdrawal :
    ran (.releaseRecord 1 ⟨[1], true⟩) claiming (fun t =>
      decide (t.boxes.offers = [0] ∧ t.acq.st = .waitSlot ∧ t.ring.slots = [.filling]) &&
        ran (.stop 1 []) t (fun u =>
          decide (u.boxes.offers = [] ∧ u.ring.slots = [.empty] ∧ u.ring.order = [] ∧ u.acq.st = .stopped))) = true := by
  decide +kernel

/-- R116: the last point of CH4 is served alone. -/
theorem test_read_points :
    ran (.readPoints 1 [1, 4, 3, 0, 0, 0, 9, 0]) ((holding [recOf 1 0] 1).modRing (fun r => { r with lock1 := some 1 }))
      (fun t => sent t .ok && decide (sentPayload t = [4, 3, 0, 0, 0, 1, 0, 4, 0])) = true := by
  decide +kernel

/-- A claim waits while the numbers are exhausted. -/
def exhausted (l : List Record) (slots : List SlotSt) : State :=
  (base.modRing (fun r => { r with order := l, slots := slots, counter := 4294967295, waitSlot := true })).modAcq
    (fun a => { a with st := .waitSlot })

theorem witness_ClearDiscardsTheUnprotectedRecords :
    ((exhausted [recOf 5 0] [.held]).takes 0x34 1 [] = true ∧ (exhausted [recOf 5 0] [.held]).ring.waitSlot = true ∧
      (exhausted [recOf 5 0] [.held]).ring.lock1 = none ∧ (exhausted [recOf 5 0] [.held]).ring.lock2 = none ∧
      (exhausted [recOf 5 0] [.held]).ring.pin = none ∧ (exhausted [recOf 5 0] [.held]).acq.st = .waitSlot ∧ (exhausted [] [.filling]).ring.order = [] ∧
      (exhausted [] [.filling]).ring.slots = [.filling]) ∧
    base.takes 0x34 1 [] = true ∧ (holding [recOf 1 0, recOf 2 1] 2).takes 0x34 1 [] = true ∧ base.ring.waitSlot = false ∧
      (holding [recOf 4294967295 0] 4294967295).ring.counter = 4294967295 := by
  decide +kernel

/-- R119: the locked record stays. -/
theorem test_clear :
    ran (.clear 1 []) ((holding [recOf 1 0, recOf 2 1] 2).modRing (fun r => { r with lock1 := some 2 })) (fun t =>
      decide (t.ring.order = [recOf 2 1] ∧ t.boxes.measRing = [.discard 1, .clear 2 false])) = true := by
  decide +kernel

/-- R107, R109 and R119: a CLEAR that ends an exhaustion serves the claim that waits. -/
theorem test_clear_ends_exhaustion :
    ran (.clear 1 []) (exhausted [recOf 5 0] [.held]) (fun t =>
      decide (t.ring.counter = 0 ∧ t.ring.slots = [.filling] ∧ t.ring.waitSlot = false ∧ t.acq.st = .preFill ∧
        t.boxes.offers = [])) = true := by
  decide +kernel

/-- `s` with an announcement on its way from the ring to the Measurement Unit. -/
def toMeas (s : State) (a : RingAnn) : State := s.modBoxes (fun b => { b with measRing := [a] })

/-- An evaluation of `recOf 1 0` whose slot 0 measures MAX of CH1 between the given limits. -/
def evalOf (k : EvalKind) (lo hi : Int) : Eval :=
  { record := 1, kind := k
    cfg := (Vector.replicate 6 (⟨0, 0, false, 0, false, 0⟩ : SlotCfg)).set 0 ⟨5, 0, true, lo, true, hi⟩
    zeroband := 2, chans := Vector.replicate 4 ⟨true, false, false, 9, 0⟩, mode := 0, geom := g4
    window := [row 1, row 2, row 3, row 4], rate := none, dirty := Vector.replicate 6 false, cleared := false }

/-- `base` with one committed record and an evaluation of it in flight. -/
def evaluating (k : EvalKind) (lo hi : Int) : State :=
  (holding [recOf 1 0] 1).modMeas (fun m => { m with eval := some (evalOf k lo hi), ns := if k = .re then 1 else 0 })

theorem witness_EvaluationsAreScheduled :
    ((toMeas base (.commit 1)).boxes.measRing = .commit 1 :: [] ∧ (toMeas base .emptied).boxes.measRing = .emptied :: [] ∧
      (evaluating .first 0 9).meas.eval.isSome = true) ∧
    ((holding [recOf 1 0] 1).meas.eval = none ∧ (holding [recOf 1 0] 1).ring.order.getLast? = some (recOf 1 0) ∧
      (holding [recOf 1 0] 1).meas.ns < (recOf 1 0).number) ∧
    ((holding [] 1).ring.order.getLast? = none ∧ (holding [] 1).meas.ns < (holding [] 1).ring.counter) ∧
    (base.ring.counter ≤ base.meas.ns ∧ base.meas.reReq = false ∧ (base.modMeas (fun m => { m with reReq := true })).meas.reReq = true ∧
      base.acq.st = .stopped ∧ (capturing .armed capOf).acq.st ≠ .stopped) ∧
    (((holding [recOf 1 0] 1).modMeas (fun m => { m with ns := 1, reReq := true })).ring.counter ≤ 1 ∧
      (holding [recOf 1 0] 1).disp.sel = none) := by
  decide +kernel

theorem witness_ClearsAndMeasChangesActOnTheResults :
    ((toMeas base (.clear 1 false)).boxes.measRing = .clear 1 false :: [] ∧
      (toMeas base (.clear 0 true)).boxes.measRing = .clear 0 true :: [] ∧
      (evaluating .first 0 9).meas.eval = some (evalOf .first 0 9)) ∧
    ((base.modBoxes (fun b => { b with meas := [ann 161 1 0] })).boxes.meas = ann 161 1 0 :: [] ∧
      (∃ ch ∈ (ann 161 1 0).changes, ch.id = 161 ∧ ch.new = 0) ∧
      (∃ ch ∈ (ann 155 0 1).changes, 100 + 10 * (5 : Fin 6).val ≤ ch.id ∧ ch.id ≤ 105 + 10 * (5 : Fin 6).val) ∧
      (capturing .armed capOf).acq.st ≠ .stopped ∧ base.acq.st = .stopped ∧ (evaluating .first 0 9).meas.eval.isSome = true ∧
      fieldIx 155 = some 79 ∧ (fieldInfo 79).cls = .meas) ∧
    (fieldIx 161 = some 81 ∧ base.setup.live[(81 : Fin 87)] = 0 ∧ base.meas.failFlag = false ∧
      (withField base 161 1).setup.live[(81 : Fin 87)] ≠ 0 ∧
      (holding [recOf 1 0] 1).meas.ns < (holding [recOf 1 0] 1).ring.counter) ∧
    ((fieldInfo 79).id = 105 + 10 * (5 : Fin 6).val ∧ base.setup.live[(79 : Fin 87)] ≠ 1 ∧ (fieldInfo 81).id = 161) := by
  decide +kernel

/-- R145: a CLEAR that has not returned the counter to 0 leaves the settled number. -/
theorem test_clear_taken :
    ran .measRingAnnouncement ((toMeas (holding [] 11) (.clear 10 false)).modMeas (fun m => { m with ns := 11 })) (fun t =>
      decide (t.meas.ns = 11 ∧ t.meas.results[(0 : Fin 6)].status = .noRecord)) = true := by
  decide +kernel

/-- R140: FAILSTOP turned off clears the fail-stop flag at the write. -/
theorem test_failstop_off :
    ran (.setField 1 (entry 161 0)) ((withField (capturing .armed capOf) 161 1).modMeas (fun m =>
      { m with failFlag := true, gateShut := true })) (fun t =>
        decide (t.meas.failFlag = false ∧ t.meas.gateShut = false ∧ t.boxes.gateOpens = 1)) = true := by
  decide +kernel

theorem witness_EvaluationCompletes :
    ((evaluating .first 0 9).meas.eval = some (evalOf .first 0 9) ∧ (evaluating .first 0 9).meas.reReq = false ∧
      (evaluating .first 0 9).ring.counter ≤ 1 ∧ (evaluating .first 0 9).ring.order.getLast? = some (recOf 1 0) ∧
      (recOf 1 0).number ≤ 1 ∧ (evaluating .re 0 9).meas.eval = some (evalOf .re 0 9) ∧ 1 ≤ (evaluating .re 0 9).meas.ns) ∧
    (((evalOf .first 40001 90000).form none 0).status = .valid ∧ ((evalOf .first 40001 90000).form none 0).value = 40000) ∧
    ((evalOf .first 40001 90000).slotFailure (Vector.ofFn ((evalOf .first 40001 90000).form none)) 0 = some (false, 1) ∧ (evalOf .first 0 39999).slotFailure (Vector.ofFn ((evalOf .first 0 39999).form none)) 0 = some (true, 1) ∧
      (evalOf .first 0 40000).slotFailure (Vector.ofFn ((evalOf .first 0 40000).form none)) 0 = none ∧ (evalOf .first 40003 39999).slotFailure (Vector.ofFn ((evalOf .first 40003 39999).form none)) 0 = some (false, 3) ∧
      (evalOf .first 40001 39990).slotFailure (Vector.ofFn ((evalOf .first 40001 39990).form none)) 0 = some (true, 10)) ∧
    ((evaluating .first 0 9).meas.lastOffer = none ∧ (evaluating .first 0 9).panel.tone = none ∧
      (withField (evaluating .first 0 9) 162 1).fld 162 = 1 ∧ (⟨3, 2000, 9⟩ : Tone).rank = 3 ∧
      ((evaluating .first 0 9).modMeas (fun m => { m with lastOffer := some 0 })).meas.lastOffer = some 0 ∧
      ¬(0 + 250000000 ≤ (evaluating .first 0 9).clock.now)) ∧
    ((∃ h : FailHold, h.excess < max (40003 - 40000) (40000 - 39999)) ∧
      (evalOf .first 40001 39999).cfg[(0 : Fin 6)].lo - 40000 = 40000 - (evalOf .first 40001 39999).cfg[(0 : Fin 6)].hi ∧
      (evalOf .first 40003 39999).cfg[(0 : Fin 6)].lo - 40000 = 3) :=
  ⟨by decide +kernel, by decide +kernel, by decide +kernel, by decide +kernel, ⟨⟨0, true, 2, 1⟩, by decide⟩,
    by decide +kernel, by decide +kernel⟩

/-- R125: work behind a completion is taken up at once, a newer record before a re-evaluation that waits. -/
theorem test_evaluation_takes_the_next :
    ran .evaluationComplete ((evaluating .first 0 9).modRing (fun r => { r with order := [recOf 1 0, recOf 2 1], counter := 2 }))
      (fun t => decide (t.meas.ns = 1 ∧ t.meas.eval.map (·.record) = some 2)) = true := by
  decide +kernel

theorem witness_MeasScheduled :
    ((holding [recOf 1 0] 1).ring.order.getLast? = some (recOf 1 0) ∧ (holding [recOf 1 0] 1).meas.ns < (recOf 1 0).number) ∧
    ((holding [] 1).ring.order.getLast? = none ∧ (holding [] 1).meas.ns < (holding [] 1).ring.counter) ∧
    (base.ring.order.getLast? = none ∧ base.ring.counter ≤ base.meas.ns ∧ base.meas.reReq = false ∧
      (base.modMeas (fun m => { m with reReq := true })).meas.reReq = true ∧ (capturing .armed capOf).acq.st ≠ .stopped ∧
      base.acq.st = .stopped ∧ base.disp.sel = none) ∧
    ((holding [recOf 1 0] 1).ring.order.find? (fun y => y.number == 1) = some (recOf 1 0) ∧
      (holding [recOf 1 0] 1).ring.order.find? (fun y => y.number == 2) = none) := by
  decide +kernel

/-- An evaluation whose slot 0 measures a kind over a window of given codes. -/
def measuring (kind : Int) (l : List Int) : Eval :=
  { evalOf .first 0 0 with
    cfg := (Vector.replicate 6 (⟨0, 0, false, 0, false, 0⟩ : SlotCfg)).set 0 ⟨kind, 0, false, 0, false, 0⟩
    window := l.map row }

theorem witness_ExtremesAreExact :
    ((evalOf .first 0 0).cfg[(0 : Fin 6)].src = ((0 : Fin 4).val : Int) ∧ (evalOf .first 0 0).chans[(0 : Fin 4)].on = true ∧
      (evalOf .first 0 0).chans[(0 : Fin 4)].vdiv = 9 ∧ (evalOf .first 0 0).cfg[(0 : Fin 6)].kind = 5) ∧
    ((∃ r ∈ (evalOf .first 0 0).window, (4 : Int) = r[(0 : Fin 4)].lo) ∧
      (∃ r ∈ (evalOf .first 0 0).window, (1 : Int) = r[(0 : Fin 4)].lo) ∧
      ∀ r ∈ (evalOf .first 0 0).window, 1 ≤ r[(0 : Fin 4)].lo ∧ r[(0 : Fin 4)].lo ≤ 4) ∧
    ((measuring 9 []).cfg[(0 : Fin 6)].kind = 9 ∧ (evalOf .first 0 0).cfg[(1 : Fin 6)].kind = 0 ∧
      ({ measuring 4 [] with chans := Vector.replicate 4 ⟨false, false, false, 9, 0⟩ } : Eval).chans[(0 : Fin 4)].on = false) ∧
    ((measuring 1 [100, 120, -20, 0]).window.map (fun r => r[(0 : Fin 4)].lo) = [100, 120, -20, 0] ∧
      (measuring 1 [100, 120, -20, 0]).zeroband * 4 ≤ 200 ∧ 1 < (measuring 1 [1, -1, 2, -1]).zeroband * 4) ∧
    ([1, 3].Pairwise (fun a b : Nat => a < b) ∧
      (measuring 7 [-50, 50, -50, 50]).window.map (fun r => r[(0 : Fin 4)].lo) = [-50, 50, -50, 50] ∧
      [1, 3] = 1 :: [] ++ [3]) := by
  decide +kernel

/-- R130, R132: Table 34 through a slot; crossings at the second and the fourth point, two samples to a point. -/
theorem test_forms :
    ((measuring 2 [100, 120, -20, 0]).form none 0).value = 787401 ∧ ((measuring 1 [1, -1, 2, -1]).form none 0).status = .zeroed ∧
      ((measuring 7 [-50, 50, -50, 50]).form none 0).value = 4000 := by
  decide +kernel

theorem witness_LimitLineAndClearsAct :
    ((base.modMeas (fun m => { m with line := .assertPending, lineEnd := some 9 })).meas.lineEnd = some 9 ∧
      (base.modMeas (fun m => { m with line := .releasePending, lineEnd := some 9 })).meas.line = .releasePending) ∧
    (base.takes 0x3B 1 [2] = true ∧ LineOverride.forceFalse.code = argU [(2 : Byte)] 0 1 ∧ 2 < argU [(3 : Byte)] 0 1) ∧
    (base.takes 0x39 1 [] = true ∧ base.takes 0x3A 1 [] = true) := by
  decide

/-- R135, R136 and R141: a MAX below MLO fails its record and asserts the line at once. -/
theorem test_evaluation :
    ran .evaluationComplete (evaluating .first 40001 90000) (fun t =>
      decide (t.meas.devVerdict = .fail ∧ t.meas.line = .asserted ∧ t.meas.hold[(0 : Fin 6)] = some ⟨40000, false, 1, 1⟩ ∧
        t.meas.stats[(0 : Fin 6)] = ⟨1, some (40000, 40000)⟩)) = true := by
  decide +kernel

/-- R135: a result outside both limits replaces a hold of a smaller excess; R136 and R144: the notices. -/
theorem test_evaluation_replaces_the_hold :
    ran .evaluationComplete ((withField (evaluating .first 40003 39999) 162 1).modMeas (fun m =>
      { m with hold := m.hold.set 0 (some ⟨1, true, 2, 1⟩) })) (fun t =>
        decide (t.meas.hold[(0 : Fin 6)] = some ⟨40000, false, 3, 1⟩ ∧ t.panel.tone = some ⟨3, 2000, 150000000⟩ ∧
          t.meas.lastOffer = some 0)) = true := by
  decide +kernel

/-- `base` with scan-out running. -/
def scanning : State := base.modDisp (fun d => { d with scanning := true })

/-- A rasterisation in flight of `recOf 1 0`. -/
def rasterOf (s : State) (k : RasterKind) : Raster := s.newRaster (recOf 1 0) k

/-- `base` with one committed record, drawn already, and a rasterisation of it in flight. -/
def drawing (k : RasterKind) : State :=
  ((holding [recOf 1 0] 1).modRing (fun r => { r with pin := some 1 })).modDisp
    (fun d => { d with nd := 1, raster := some (rasterOf base k) })

theorem witness_FrameStartDecaysAndSwaps :
    (base.disp.scanning = false ∧ scanning.disp.scanning = true ∧ ∀ c : Fin 4, scanning.disp.planes[c].wf = true) ∧
    ((withField (capturing .armed capOf) 70 2).acq.st ≠ .stopped ∧ (withField (capturing .armed capOf) 70 2).fld idPersist = 2 ∧
      (withField (capturing .armed capOf) 70 2).disp.raster = none ∧ (drawing .live).disp.raster ≠ none) ∧
    ((scanning.modOv (fun o => { o with st := .waitFrame })).ov.st = .waitFrame ∧ scanning.ov.st ≠ .waitFrame) := by
  decide +kernel

/-- `s` with an announcement on its way from the ring to the display. -/
def toDisp (s : State) (a : RingAnn) : State := s.modBoxes (fun b => { b with dispRing := [a] })

theorem witness_RasterisationsAreScheduled :
    ((toDisp base (.commit 1)).boxes.dispRing = .commit 1 :: [] ∧ (drawing .live).disp.raster.isSome = true) ∧
    ((holding [recOf 1 0] 1).disp.raster = none ∧ (holding [recOf 1 0] 1).ring.order.getLast? = some (recOf 1 0) ∧
      (holding [recOf 1 0] 1).disp.nd < 1 ∧ (holding [recOf 1 0] 1).ring.pin = none ∧
      (holding [recOf 1 0] 1).ring.order.find? (fun y => y.number == 1) = some (recOf 1 0)) ∧
    (base.ring.order.getLast? = none ∧ base.disp.redraw = false ∧ base.ring.counter ≤ base.disp.nd ∧
      (base.modDisp (fun d => { d with redraw := true })).disp.redraw = true ∧ base.acq.st = .stopped ∧
      base.ring.order = [] ∧ base.disp.sel = none ∧ (base.modDisp (fun d => { d with sel := some 1 })).disp.sel = some 1) := by
  decide +kernel

/-- R150: a LIVE rasterisation of a new record pins it. -/
theorem test_raster_starts :
    ran .rasterCommitTaken (toDisp (holding [recOf 1 0] 1) (.commit 1)) (fun t =>
      decide (t.ring.pin = some 1 ∧ t.disp.nd = 1 ∧ t.disp.raster.map (·.kind) = some .live)) = true := by
  decide +kernel

/-- A full ring with its oldest record pinned by a rasterisation, and a claim that waits though a rebuild is owed. -/
def pinEnding : State :=
  (((holding sixteen 16).modRing (fun r => { r with pin := some 1, waitSlot := true, geomPending := true, lock2 := some 2 })).modDisp
    (fun d => { d with nd := 16, raster := some (rasterOf base .live) })).modAcq (fun a => { a with st := .waitSlot })

theorem witness_RasterisationCompletes :
    (pinEnding.disp.raster = some (rasterOf base .live) ∧ pinEnding.ring.pin = some (rasterOf base .live).record ∧
      pinEnding.ring.waitSlot = true ∧ pinEnding.acq.st = .waitSlot ∧ pinEnding.ring.counter ≠ 4294967295 ∧
      pinEnding.ring.slots = List.replicate 16 .held ∧ pinEnding.ring.order = [] ++ recOf 1 0 :: sixteen.drop 1 ∧
      pinEnding.ring.lock1 = none ∧ pinEnding.ring.lock2 ≠ some (recOf 1 0).number ∧ pinEnding.disp.redraw = false ∧
      pinEnding.ring.counter ≤ pinEnding.disp.nd ∧ ∀ y ∈ pinEnding.ring.order, y.number ≤ pinEnding.disp.nd) ∧
    ((drawing .live).disp.raster = some (rasterOf base .live) ∧ (drawing .live).ring.pin = some (rasterOf base .live).record ∧
      (drawing .live).ring.waitSlot = false ∧ (drawing .live).ring.counter ≤ (drawing .live).disp.nd ∧
      (drawing .live).ring.order.getLast? = some (recOf 1 0) ∧ (drawing .live).disp.redraw = false ∧
      ∀ c : Fin 4, (drawing .live).disp.planes[c].wf = true) ∧
    ((rasterOf base .live).hits = [(0, planeAddr 249 199), (0, planeAddr 250 198), (0, planeAddr 250 199)] ∧ (rasterOf base .live).kind = .live ∧ (rasterOf base .redraw).kind = .redraw) ∧
    (0 < tdivOf (rasterOf base .live).tdiv ∧ (rasterOf base .live).chans[(0 : Fin 4)].on = true ∧
      (rasterOf base .live).on[(0 : Fin 4)] = true ∧ (rasterOf base .live).on[(1 : Fin 4)] = false) := by
  decide +kernel

/-- R151, R153 to R155: the first two points lie at column 249 and row 199, the others at column 250 and row 198, and the
vector joins them. -/
theorem test_raster_completes :
    ran .rasterComplete (drawing .redraw) (fun t => decide (t.ring.pin = none ∧ t.disp.raster = none) &&
      (rasterOf base .redraw).hits.all (fun h => (t.disp.planes[h.1].read h.2) == 255)) = true := by
  decide +kernel

/-- R109 and R113: the end of the pin serves the claim, though a rebuild is owed. -/
theorem test_pin_end_serves :
    ran .rasterComplete pinEnding (fun t => decide (t.boxes.offers = [] ∧ t.ring.waitSlot = false ∧
      t.acq.st = .preFill ∧ t.acq.cap.map (·.slot) = some 0 ∧ t.ring.geomPending = true ∧ t.boxes.measRing = [.discard 1])) = true := by
  decide +kernel

theorem witness_DisplayFollowsAnnouncements :
    ((base.modBoxes (fun b => { b with disp := [ann 71 60 61] })).boxes.disp = ann 71 60 61 :: [] ∧
      (capturing .armed capOf).acq.st ≠ .stopped ∧ ¬(∃ ch ∈ (ann 71 60 61).changes,
        ch.id ∈ [11, 12, 21, 22, 31, 32, 41, 42, 50, 51]) ∧
      (∃ ch ∈ (ann 51 500 0).changes, ch.id ∈ [11, 12, 21, 22, 31, 32, 41, 42, 50, 51]) ∧
      (drawing .live).disp.raster.isSome = true ∧ base.disp.raster = none ∧
      ((drawing .redraw).modAcq (fun a => { a with st := .settling })).disp.raster = some (rasterOf base .redraw) ∧
      ((drawing .redraw).modAcq (fun a => { a with st := .settling })).acq.st ≠ .stopped) ∧
    (((holding [recOf 1 0] 1).modDisp (fun d => { d with nd := 1 })).ring.counter ≤ 1 ∧
      (holding [recOf 1 0] 1).ring.pin = none) ∧
    ((toDisp base (.discard 1)).boxes.dispRing = .discard 1 :: [] ∧
      (toDisp base (.pinCancelled 1)).boxes.dispRing = .pinCancelled 1 :: [] ∧
      ((drawing .live).modRing (fun r => { r with pin := none })).ring.pin ≠ some (rasterOf base .live).record ∧
      (toDisp base (.clear 0 true)).boxes.dispRing = .clear 0 true :: [] ∧ (toDisp base .emptied).boxes.dispRing = .emptied :: []) := by
  decide +kernel

theorem witness_DisplayRequestsAct :
    (base.takes 0x40 1 [0, 0, 0, 0] = true ∧ (capturing .armed capOf).acq.st ≠ .stopped ∧ base.acq.st = .stopped ∧
      base.ring.order.find? (fun y => y.number == argU [(1 : Byte), 0, 0, 0] 0 4) = none) ∧
    ((drawing .live).disp.raster.isSome = true ∧ (evaluating .first 0 9).meas.eval.isSome = true ∧
      ((evaluating .first 0 9).modDisp (fun d => { d with nd := 1 })).ring.counter ≤ 1 ∧
      (evaluating .first 0 9).ring.pin = none ∧ (evaluating .first 0 9).disp.raster = none ∧
      argU [(1 : Byte), 0, 0, 0] 0 4 = (recOf 1 0).number) ∧
    ((holding [recOf 1 0] 1).meas.eval = none ∧ (holding [recOf 1 0] 1).ring.pin = none ∧
      (holding [recOf 1 0] 1).acq.st = .stopped ∧
      (holding [recOf 1 0] 1).ring.order.find? (fun y => y.number == 1) = some (recOf 1 0) ∧
      (holding [recOf 1 0] 1).ring.order.getLast? = some (recOf 1 0) ∧
      (holding [recOf 1 0] 1).meas.ns < (recOf 1 0).number ∧
      ((holding [recOf 1 0] 1).modMeas (fun m => { m with ns := 1 })).ring.counter ≤ 1) ∧
    (base.takes 0x42 1 [] = true ∧ base.disp.raster = none) := by
  decide +kernel

theorem witness_DisplayScheduled :
    (base.ring.pin = none ∧ (holding [recOf 1 0] 1).ring.order.getLast? = some (recOf 1 0) ∧
      (holding [recOf 1 0] 1).disp.nd < (recOf 1 0).number ∧
      (holding [recOf 1 0] 1).ring.order.find? (fun y => y.number == (recOf 1 0).number) = some (recOf 1 0)) ∧
    (base.ring.order = [] ∧ base.disp.sel = none ∧ base.disp.redraw = false ∧ base.acq.st = .stopped ∧
      (base.modDisp (fun d => { d with redraw := true })).disp.redraw = true ∧ (capturing .armed capOf).acq.st ≠ .stopped) ∧
    ((base.modDisp (fun d => { d with sel := some 3 })).disp.sel = some 3 ∧
      base.ring.order.find? (fun y => y.number == 3) = none) := by
  decide +kernel

theorem witness_Abandoned :
    ((drawing .live).disp.raster = some (rasterOf base .live) ∧
      (drawing .live).ring.pin = some (rasterOf base .live).record ∧ (drawing .live).ring.waitSlot = false ∧
      (drawing .live).ring.counter ≤ (drawing .live).disp.nd ∧ (drawing .live).ring.order.getLast? = some (recOf 1 0) ∧
      (recOf 1 0).number ≤ (drawing .live).disp.nd ∧ (drawing .live).disp.redraw = false ∧
      (drawing .live).takes 0x42 1 [] = true ∧ (drawing .live).takes 0x40 1 [0, 0, 0, 0] = true) ∧
    (pinEnding.ring.pin = some 1 ∧ pinEnding.ring.waitSlot = true ∧ pinEnding.acq.st = .waitSlot ∧
      (pinEnding.modAcq (fun a => { a with st := .settling })).acq.st ≠ .waitSlot ∧ pinEnding.ring.counter ≠ 4294967295 ∧
      pinEnding.ring.order = [] ++ recOf 1 0 :: sixteen.drop 1 ∧ pinEnding.ring.locked (recOf 1 0).number = false ∧
      (∀ x ∈ pinEnding.ring.slots, x ≠ .empty) ∧
      (pinEnding.modRing (fun r => { r with slots := [.empty] })).ring.slots[0]? = some .empty ∧
      (pinEnding.modRing (fun r => { r with order := [recOf 1 0], lock1 := some 1 })).ring.locked 1 = true ∧
      (pinEnding.modRing (fun r => { r with counter := 4294967295 })).ring.counter = 4294967295) := by
  decide +kernel

/-- R125, R138 and R158: with FAILSTOP on, a SHOW_RECORD at which Ns catches up with the counter opens the gate. -/
theorem test_show_record_opens_the_gate :
    ran (.showRecord 1 [0, 0, 0, 0]) ((withField (holding [recOf 1 0] 2) 161 1).modMeas (fun m =>
      { m with ns := 1, gateShut := true })) (fun t =>
        decide (t.meas.ns = 2 ∧ t.meas.reReq = true ∧ t.boxes.gateOpens = 1 ∧ t.meas.eval = none ∧ t.ring.pin = some 1)) =
      true := by
  decide +kernel

/-- R152, R113 and R166: CLEAR_DISPLAY abandons, ends the pin and keeps the drawn number. -/
theorem test_clear_display_abandons :
    ran (.clearDisplay 1 []) (drawing .live) (fun t =>
      decide (t.disp.raster = none ∧ t.ring.pin = none ∧ t.disp.nd = 1 ∧ t.disp.planes = Vector.replicate 4 [] ∧
        t.freeCtr = 1)) = true := by
  decide +kernel

/-- R158: in STOPPED with the evaluator IDLE the shown record is evaluated again at once. -/
theorem test_show_record_evaluates :
    ran (.showRecord 1 [1, 0, 0, 0]) ((holding [recOf 1 0] 1).modMeas (fun m => { m with ns := 1 })) (fun t =>
      decide (t.meas.eval.map (fun e => (e.record, e.kind)) = some (1, .re) ∧ t.meas.reReq = false)) = true := by
  decide +kernel

/-- `base` with a draw queue and the drawer in a state. -/
def drawer (st : DrawerSt) (q : List DrawRec) : State := base.modOv (fun o => { o with st := st, queue := q })

/-- A FILL record as the link carries it. -/
def fillBytes : List Byte := 1 :: (leInt 2 (-1) ++ leInt 2 0 ++ leInt 2 1 ++ leInt 2 0 ++ [5])

theorem witness_OverlayDrawsAndPresents :
    (base.takes 0x48 1 fillBytes = true ∧ fillBytes.length ≤ 512 ∧
      32 < (drawer .drawing (List.replicate 32 .present)).ov.queue.length + 1 ∧
      (drawer .drawing (List.replicate 31 .present)).ov.queue.length + 1 ≤ 32) ∧
    (paletteLen [(255 : Byte), 1, 2, 3].length = true ∧ base.takes 0x49 1 [255, 1, 2, 3] = true ∧ 255 + 1 ≤ 256 ∧
      256 < argU [(255 : Byte), 1, 2, 3, 4, 5, 6] 0 1 + 2 ∧ paletteLen [(0 : Byte)].length = true) ∧
    ((drawer .drawing [.fill (-1) 0 1 0 5]).ov.queue = .fill (-1) 0 1 0 5 :: [] ∧
      (drawer .drawing [.line 0 0 3 1 5]).ov.queue = .line 0 0 3 1 5 :: [] ∧ base.ov.bufA.wf = true ∧ base.ov.bufB.wf = true ∧
      (drawer .copying [.present]).ov.st = .copying ∧ (drawer .copying [.present]).ov.queue = .present :: []) ∧
    ((drawer .drawing [.text (-4) 0 5 0 [32, 65, 0]]).ov.queue = .text (-4) 0 5 0 [32, 65, 0] :: [] ∧
      (drawer .drawing [.bitmap 799 479 9 2 1 2 [128, 0, 0, 0]]).ov.queue = .bitmap 799 479 9 2 1 2 [128, 0, 0, 0] :: [] ∧
      2 * ((9 + 7) / 8) ≤ [(128 : Byte), 0, 0, 0].length ∧ [(128 : Byte), 0, 0].length < 2 * ((9 + 7) / 8)) := by
  decide +kernel

/-- The draw records of a payload: a sound one, an unknown kind, and bytes that hold no whole record. -/
theorem witness_OverlayDrawsAndPresents_records :
    (WholeRecord fillBytes ∧ RecordOf fillBytes (.fill (-1) 0 1 0 5) ∧
      List.Forall₂ RecordOf [fillBytes, [5]] [.fill (-1) 0 1 0 5, .present]) ∧
    (WholeRecord [9] ∧ ¬∃ r, RecordOf [9] r) ∧ (∀ k, ¬WholeRecord ([(1 : Byte)].take k)) := by
  have hf : RecordOf fillBytes (.fill (-1) 0 1 0 5) := by unfold RecordOf; decide
  have hp : RecordOf [5] .present := by unfold RecordOf; decide
  refine ⟨⟨by unfold WholeRecord; decide, hf, .cons hf (.cons hp .nil)⟩, ⟨by unfold WholeRecord; decide, ?_⟩, ?_⟩
  · rintro ⟨r, h⟩
    cases r
    case present => exact absurd h (by unfold RecordOf; decide)
    all_goals exact absurd h.1 (by decide)
  · rintro (_ | k)
    · exact fun h => h.1 rfl
    · rw [show [(1 : Byte)].take (k + 1) = [1] by simp]
      unfold WholeRecord
      decide

/-- R176 and R177: a solid box cut at the left edge, and the one pixel of a bitmap that lies on the panel. -/
theorem test_text_and_bitmap :
    ran .drawRecordComplete (drawer .drawing [.text (-7) (-15) 5 0 [0]]) (fun t => decide (t.ov.bufB = [(0, 5)])) = true ∧
      ran .drawRecordComplete (drawer .drawing [.bitmap 799 479 9 2 1 2 [128, 0, 0, 0]]) (fun t =>
        decide (t.ov.bufB = [(383999, 1)])) = true := by
  decide +kernel

/-- R174: a FILL from off the panel writes the two pixels on it. -/
theorem test_fill :
    ran .drawRecordComplete (drawer .drawing [.fill (-1) 0 1 0 5]) (fun t =>
      decide (t.ov.bufB = [(0, 5), (1, 5)] ∧ t.ov.bufA = [] ∧ t.ov.st = .idle)) = true := by
  decide +kernel

/-- R178: a copy completes, and PRESENTED is offered. -/
theorem test_present :
    ran .presentCopyComplete (drawer .copying [.present]) (fun t =>
      decide (t.ov.presents = 1 ∧ t.ov.st = .idle) && decide (sentPayload t = [])) = true := by
  decide +kernel

/-- `base` with the store loaded. -/
def loaded : State := base.modStore (fun t => { t with loaded := true })

/-- `loaded` with an operation in flight. -/
def writing (op : StoreOp) : State := loaded.modStore (fun t => { t with st := .writing op 12000000 })

theorem witness_StoreOperationsBegin :
    (base.takes 0x50 1 [16] = true ∧ base.store.loaded = false ∧ loaded.store.loaded = true ∧ loaded.store.st = .idle ∧
      loaded.store.lastPending = false ∧ argU [(16 : Byte)] 0 1 ≤ 16 ∧ 16 < argU [(17 : Byte)] 0 1 ∧
      (writing (.erase 1)).store.st = .writing (.erase 1) 12000000) ∧
    (loaded.takes 0x52 1 [1] = true ∧ (1 : Fin 17).val = argU [(1 : Byte)] 0 1) ∧
    ((loaded.modPins (fun p => { p with straps := ⟨false, true, false, false⟩ })).pins.straps.factory = true ∧
      loaded.pins.straps.factory = false ∧ loaded.takes 0x54 1 [4, 12, 0x66, 0x46, 63] = true ∧
      argU [(4 : Byte), 12, 0x66, 0x46, 63] 2 2 = 18022 ∧ argS [(4 : Byte), 12, 0x66, 0x46, 63] 4 1 = 63 ∧
      (51 : Fin 52).val = 13 * (4 - 1) + 12 ∧ loaded.store.calRam[(51 : Fin 52)] = .unwritten ∧
      18022 < argU [(4 : Byte), 12, 0x67, 0x46, 63] 2 2 ∧
      (loaded.modStore (fun t => { t with calRam := t.calRam.set 51 .corrupt })).store.calRam[(51 : Fin 52)] ≠ .unwritten) := by
  decide +kernel

theorem witness_StoreOperationsComplete :
    ((writing (.save 1 [65] defaultVals 1 0 false)).store.st = .writing (.save 1 [65] defaultVals 1 0 false) 12000000 ∧
      (writing (.erase 1)).store.lastPending = false ∧ (writing (.erase 1)).store.loadPending = false) ∧
    ((writing (.calWrite 51 16384 0)).store.calArea[(51 : Fin 52)] = .erased) ∧
    (((writing (.last defaultVals 1)).modPower (fun p => { p with st := .shuttingDown })).power.st = .shuttingDown ∧
      (writing (.last defaultVals 1)).power.downStep = .lastWrite ∧ (writing (.last defaultVals 1)).power.st ≠ .shuttingDown) ∧
    (((writing (.erase 1)).modStore (fun t => { t with lastPending := true })).store.lastPending = true ∧
      ((writing (.erase 1)).modStore (fun t => { t with loadPending := true })).store.loadPending = true) := by
  decide +kernel

theorem witness_StoreOperationsComplete_waiting :
    (((writing (.save 1 [65] defaultVals 1 0 false)).modStore (fun t => { t with lastPending := true })).store.lastPending = true ∧
      ((writing (.calWrite 51 16384 0)).modStore (fun t => { t with lastPending := true })).store.calArea[(51 : Fin 52)] =
        .erased) ∧
    (((writing (.last defaultVals 1)).modStore (fun t => { t with loadPending := true })).store.loadPending = true ∧
      ((writing (.last defaultVals 1)).modStore (fun t => { t with loadPending := true })).store.lastPending = false ∧
      (StoreOp.last defaultVals 1).isLast = true ∧
      ((writing (.last defaultVals 1)).modPower (fun p => { p with st := .shuttingDown })).power.downStep = .lastWrite) := by
  decide +kernel

/-- R195, R201 and log entry 21: behind a LAST write another begins, and the STANDBY reply is not queued yet. -/
theorem test_last_behind_last :
    ran .storeWriteComplete (((writing (.last defaultVals 1)).modStore (fun t => { t with lastPending := true })).modPower
      (fun p => { p with st := .shuttingDown })) (fun t =>
        decide (t.store.st = .writing (.last defaultVals 2) 24000000 ∧ t.power.downStep = .lastWrite ∧
          t.power.graceEnd = none ∧ t.link = base.link)) = true := by
  decide +kernel

/-- R184: a save begins and completes 12 ms later. -/
theorem test_save :
    ran (.save 1 [1, 65, 10]) loaded (fun t => ran .storeWriteComplete t (fun u =>
      sent u .clamped && decide (u.store.dir[(1 : Fin 17)] = ⟨.valid, [65, 63], 1⟩ ∧ u.clock.now = 12000000))) = true := by
  decide +kernel

/-- `loaded` with a slot and its directory entry. -/
def withSlot (c : SlotClass) (x : NvSlot) : State :=
  loaded.modStore (fun t => { t with slots := t.slots.set 1 x, dir := t.dir.set 1 ⟨c, [], 1⟩ })

/-- POWERING_UP with the load in flight and a LAST slot whose VDIV of CH1 is 3. -/
def loading : State :=
  (base.modStore (fun t =>
    { t with st := .loading, slots := t.slots.set 0 (.valid [] (withField base 11 3).setup.live 1) })).modPower
    (fun p => { p with st := .poweringUp, upStep := .load })

/-- R203: after the hand-over a RESET's defaults stay in force; before it the load replaces them. Either way ON follows. -/
theorem test_reset_crosses_the_load :
    [true, false].map (fun h => ran (.reset ⟨.sre, h⟩ 1 []) loading (fun t => ran .loadComplete t (fun u =>
      decide (u.power.st = .on ∧ u.acq.st = .settling ∧ u.setup.live.at 11 = if h then 9 else 3)))) = [true, true] := by
  decide +kernel

theorem witness_RecallAndLoadHandTheSetupOver :
    (loaded.takes 0x51 1 [1] = true ∧ base.store.loaded = false ∧ 16 < argU [(17 : Byte)] 0 1 ∧
      (writing (.erase 1)).store.loaded = true ∧ loaded.store.lastPending = false) ∧
    (loaded.store.dir[(1 : Fin 17)].cls = .erased ∧ (withSlot .corrupt .corrupt).store.dir[(1 : Fin 17)].cls = .corrupt ∧
      (withSlot .valid .corrupt).store.slots[(1 : Fin 17)] = .corrupt ∧
      (withSlot .valid .erased).store.slots[(1 : Fin 17)] = .erased ∧
      (withSlot .valid (.valid [] defaultVals 1)).store.slots[(1 : Fin 17)] = .valid [] defaultVals 1 ∧
      ∀ j : Fin 87, (fieldInfo j).lo ≤ defaultVals[j] ∧ defaultVals[j] ≤ (fieldInfo j).hi) ∧
    ((base.modStore (fun t => { t with st := .loading })).store.st = .loading ∧
      ((base.modStore (fun t => { t with st := .loading })).modPower (fun p =>
        { p with st := .poweringUp, upStep := .load })).power.upStep = .load ∧ base.acq.st = .stopped ∧
      base.acq.fault = false ∧ faulty.acq.fault = true ∧ base.power.st ≠ .poweringUp) ∧
    ((withSlot .valid (.valid [] (defaultVals.set 1 99) 1)).store.slots[(1 : Fin 17)] =
        .valid [] (defaultVals.set 1 99) 1 ∧ (fieldInfo 1).kind ≠ .choice ∧ (fieldInfo 1).hi < 99 ∧
      (fieldInfo 0).kind = .choice ∧ (fieldInfo 0).hi < 99) ∧
    (loading.store.st = .loading ∧ loading.store.loadHanded = false ∧ loading.power.st = .poweringUp ∧
      loading.power.upStep = .load ∧ loading.acq.st = .stopped ∧ loading.acq.fault = false ∧
      loading.store.slots[(0 : Fin 17)] = .valid [] (withField base 11 3).setup.live 1 ∧
      base.store.slots[(0 : Fin 17)] = .erased ∧ loading.loadHandover.store.loadHanded = true) := by
  decide +kernel

/-- R194: with no LAST slot the load hands the defaults over. -/
theorem test_load :
    ran .loadComplete ((base.modStore (fun t => { t with st := .loading })).modPower (fun p =>
      { p with st := .poweringUp, upStep := .load })) (fun t =>
        decide (t.power.st = .on ∧ t.store.loaded = true ∧ t.setup.gen = 1 ∧ t.acq.st = .settling)) = true := by
  decide +kernel

/-- `base` with the oldest recognised change of the POWER key, in a power state. -/
def powerKey (st : PowerSt) (press : Bool) : State :=
  (base.modPower (fun p => { p with st := st })).modPanel (fun k => { k with due := [⟨0, press, 3, .none⟩] })

theorem witness_PowerKeyAndSupplyResetAct :
    ((⟨false, false, false, false⟩ : Straps).autoOn = false ∧ (⟨true, false, false, false⟩ : Straps).autoOn = true ∧
      base.pins.feReady = false ∧ (writing (.erase 1)).store.st = .writing (.erase 1) 12000000 ∧
      (writing (.last defaultVals 1)).store.st = .writing (.last defaultVals 1) 12000000) ∧
    ((powerKey .standby true).panel.due = ⟨0, true, 3, .none⟩ :: [] ∧ (powerKey .standby true).power.st = .standby ∧
      (powerKey .poweringUp true).power.st = .poweringUp ∧ (powerKey .on true).power.st = .on ∧
      (powerKey .shuttingDown true).power.downStep = .lastWrite) ∧
    (((powerKey .shuttingDown true).modPower (fun p => { p with saved := some (true, .single) })).power.saved =
        some (true, .single) ∧ base.acq.fault = false ∧ base.acq.st = .stopped ∧ base.power.saved = none) ∧
    ((powerKey .on false).panel.due = ⟨0, false, 3, .none⟩ :: []) := by
  decide +kernel

/-- R202: an abandoned shutdown answers the STANDBY and starts the saved acquisition with cause POWER. -/
theorem test_abandoned_shutdown :
    ran (.keyPress 0) ((powerKey .shuttingDown true).modPower (fun p => { p with saved := some (true, .single) })
      |>.modLink (fun l => { l with reservations := [⟨4, 0x58⟩] })) (fun t =>
        sent t .standbyAborted && decide (t.power.st = .on ∧ t.acq.mode = .single ∧ t.acq.st = .settling ∧
          t.link.notices = [.acqState .settling .single .power])) = true := by
  decide +kernel

/-- R197 and R206: a POWER press in STANDBY with FE_READY low. -/
theorem test_power_press :
    ran (.keyPress 0) (powerKey .standby true) (fun t =>
      decide (t.power.st = .poweringUp ∧ t.fe.cond = .waitReady ∧ t.fe.waitEnd = some 500000000 ∧ t.link.rate = 3)) = true := by
  decide +kernel

/-- R182: a supply reset cuts a save. -/
theorem test_supply_reset_cuts :
    ran (.supplyReset ⟨false, false, false, false⟩) (writing (.save 1 [] defaultVals 1 0 false)) (fun t =>
      decide (t.power.st = .standby ∧ t.store.slots[(1 : Fin 17)] = .corrupt ∧ t.store.st = .idle)) = true := by
  decide +kernel

/-- A capture in flight whose slot is FILLING, with a reload deferred. -/
def filling : State :=
  ((capturing .postFill capOf).modAcq (fun a => { a with deferred := true })).modRing (fun r =>
    { r with slots := r.slots.set 0 .filling })

theorem witness_ShutdownEndsInStandby :
    (base.takes 0x58 1 [] = true ∧ base.power.st = .on ∧ base.store.st = .idle ∧ (writing (.erase 1)).store.st ≠ .idle ∧
      (powerKey .shuttingDown true).takes 0x58 1 [] = true ∧ (powerKey .poweringUp true).takes 0x58 1 [] = true) ∧
    ((base.modPower (fun p => { p with graceEnd := some 9 })).power.graceEnd = some 9 ∧
      (base.modPower (fun p => { p with holdEnd := some 9 })).power.holdEnd = some 9) ∧
    (filling.takes 0x58 1 [] = true ∧ filling.power.st = .on ∧ filling.acq.st ≠ .stopped ∧ base.acq.st = .stopped) := by
  decide +kernel

/-- Log entry 13: announcements on their way are dropped at a standby entry, which hands its own. -/
theorem test_standby_drops_announcements :
    ran .graceTimerExpiry ((toAcq (toDisp (drawing .live) (.commit 1)) [ann 11 9 3]).modPower (fun p =>
      { p with st := .shuttingDown, graceEnd := some 9 })) (fun t =>
        decide (t.boxes = { boxesEmpty with measRing := [.emptied], dispRing := [.pinCancelled 1, .emptied] })) = true := by
  decide +kernel

theorem witness_StandbyEntered :
    ((drawing .live).ring.pin = some 1 ∧ base.acq.cap = none ∧ base.boxes.offers = [] ∧ (∀ x ∈ base.ring.slots, x ≠ .filling) ∧ base.acq.st = .stopped ∧
      base.meas.gateShut = base.gateShutNow) ∧
    (filling.acq.st ≠ .stopped ∧ filling.acq.deferred = true ∧ filling.acq.cap = some capOf ∧
      ∀ i < filling.ring.slots.length, filling.ring.slots[i]? = some SlotSt.filling → capOf.slot = i) := by
  decide +kernel

/-- R44, R45, R82, R101 and R104: a forced standby ends a capture, clears the comparator's flags and the illegal count, and
discards the open window. -/
theorem test_forced_standby :
    ran .holdTimerExpiry (((filling.modAcq (fun a => { a with cmp := cmpOf true false })).modPower (fun p =>
        { p with holdEnd := some 9 })).modPanel (fun p =>
        { p with encs := p.encs.set 3 ⟨true, false, 2, 5, some ⟨20, 1⟩⟩ })) (fun t =>
      decide (t.acq.st = .stopped ∧ t.acq.discStop = 1 ∧ t.acq.cmp = ⟨false, trigOf defaultVals, false, false, none⟩ ∧
        t.panel.encs[(3 : Fin 12)] = ⟨true, false, 2, 0, none⟩ ∧ t.power.forcedOff = true)) = true := by
  decide +kernel

/-- R101, R104 and R201: the power stop of a STANDBY discards the capture and offers ACQ_STATE with cause POWER. -/
theorem test_standby_stops :
    ran (.standby 1 []) (filling.modLink (fun l => { l with tx := busyTx.link.tx })) (fun t =>
      decide (t.acq.st = .stopped ∧ t.acq.discStop = 1 ∧ t.link.notices = [.acqState .stopped .run .power] ∧
        t.ring.slots[0]? = some .empty)) = true := by
  decide +kernel

/-- R201: STANDBY in ON begins the LAST write and holds its reply. -/
theorem test_standby :
    ran (.standby 1 []) loaded (fun t =>
      decide (t.power.st = .shuttingDown ∧ t.link.reservations = [⟨1, 0x58⟩] ∧
        t.store.st = .writing (.last defaultVals 1) 12000000)) = true := by
  decide +kernel

/-- R204: the grace timer's expiry. -/
theorem test_grace :
    ran .graceTimerExpiry (base.modPower (fun p => { p with st := .shuttingDown, graceEnd := some 9 })) (fun t =>
      decide (t.power.st = .standby ∧ t.link.up = false ∧ t.clock.now = 9)) = true := by
  decide +kernel

/-- FAILSTOP on with a record that awaits its evaluation: the gate is CLOSED. -/
def shut : State := (withField (holding [recOf 1 0] 1) 161 1).modMeas (fun m => { m with gateShut := true })

/-- An ERASE that completes while the transmitter is idle. -/
def completed (now : Nat) : State :=
  ((base.modLink (fun l => { l with reservations := [⟨5, 0x52⟩] })).completeLong 0x52 .ok [1]).modClock
    (fun c => { c with now := now })

theorem witness_ResetRestoresTheDefaults :
    base.takes 0x63 1 [] = true ∧ busyTx.takes 0x63 1 [] = true ∧ base.link.tx = none ∧ busyTx.link.tx ≠ none ∧
      (writing (.erase 1)).takes 0x63 1 [] = true ∧ loading.takes 0x63 1 [] = true ∧ loading.store.st = .loading ∧
      (completed 0).link.tx = some ⟨⟨2, 5, 0x52, 0, [1]⟩, (completed 0).clock.now + frameTime (completed 0).link.rate 1⟩ ∧
      (completed 0).takes 0x63 1 [] = true ∧ busyTx.link.tx.map (·.frame.kind) ≠ some 2 ∧
      base.meas.gateShut = base.gateShutNow ∧ shut.takes 0x63 1 [] = true ∧ shut.meas.gateShut = true ∧
      shut.gateShutNow = true := by
  decide +kernel

/-- R138 and R145: a RESET opens a CLOSED gate and tells the engine once. -/
theorem test_reset_opens_the_gate :
    ran (.reset ⟨.res, false⟩ 1 []) shut (fun t =>
      decide (t.meas = measInitial ∧ t.gateShutNow = false ∧ t.boxes.gateOpens = 1)) = true := by
  decide +kernel

/-- R190 and R219: a completion just before a RESET has its reply flushed, though its transmission began at once; with time
gone by the frame in transmission is completed. -/
theorem test_reset_flushes_completion :
    (completed 0).link.tx.isSome = true ∧
      ran (.reset ⟨.sre, false⟩ 1 []) (completed 0) (fun t =>
        sent t .ok && decide (t.link.tx.map (·.frame.code) = some 0x63 ∧ t.link.replies = [])) = true ∧
      ran (.reset ⟨.sre, false⟩ 1 []) (completed 1) (fun t =>
        decide (t.link.tx = (completed 1).link.tx ∧ t.link.replies = [⟨1, 0x63, .ok, []⟩])) = true := by
  decide +kernel

/-- R219 and R102: a RESET in ON starts acquisition again. -/
theorem test_reset :
    ran (.reset ⟨.sre, false⟩ 1 []) (withField base 11 3) (fun t =>
      sent t .ok && decide (t.setup.live = defaultVals ∧ t.acq.st = .settling ∧
        t.link.notices = [.setupReplaced .reset 1 .normal, .acqState .settling .run .reset])) = true := by
  decide +kernel

/-- The frame of a STOP request. -/
def stopFrame : Frame := ⟨1, 7, 0x29, 0, []⟩

theorem witness_WellFormedFramesAreReceived :
    (stopFrame.kind = 1 ∧ stopFrame.payload.length ≤ 512 ∧ base.link.up = true ∧ base.link.rx = .hunt ∧
      base.link.rxq.length < 4) ∧
    ((base.modLink (fun l => { l with rxq := List.replicate 4 stopFrame })).link.rxq =
        List.replicate 3 stopFrame ++ [stopFrame] ∧ 3 ≤ (List.replicate 3 stopFrame).length) := by
  decide

/-- `base` with the receiver in a frame. -/
def inFrame (l : List Byte) : State := base.modLink (fun x => { x with rx := .inFrame l, byteEnd := some 9 })

theorem witness_ReceiverRefusesAndBreaks :
    (base.link.up = true ∧ base.link.rx = .hunt ∧ (0x00 : Byte) ≠ 0xC3) ∧
    ((inFrame [1, 7, 0x29, 0]).link.rx = .inFrame [1, 7, 0x29, 0] ∧ [(1 : Byte), 7, 0x29, 0].length < 5) ∧
    ((inFrame []).link.rx = .inFrame [] ∧ (2 : Byte) ≠ 1 ∧ (2 : Byte) ≠ 0xC3) ∧
    (512 < argU ([(1 : Byte), 7, 0x29, 0, 1] ++ [2]) 4 2 ∧ (0xC3 : Byte) ∉ [(1 : Byte), 7, 0x29, 0, 1] ++ [2]) ∧
    ([(1 : Byte), 7, 0x29, 0, 0, 0, 0].length = 7 + argU [(1 : Byte), 7, 0x29, 0, 0, 0, 0] 4 2 ∧
      argU ([(1 : Byte), 7, 0x29, 0, 0, 0, 0] ++ [0]) 6 2 ≠ (crc16 [1, 7, 0x29, 0, 0, 0]).toNat) ∧
    ((inFrame [1]).link.byteEnd = some 9 ∧ (0xC3 : Byte) ∉ [(1 : Byte)]) ∧
    ((base.modLink (fun l => { l with rx := .brk })).link.rx = .brk) := by
  decide +kernel

/-- R208: the last byte of a STOP request's frame completes it. -/
theorem test_frame_received :
    ran (.frameReceived ((stopFrame.bytes.drop 8).headD 0)) (inFrame ((stopFrame.bytes.drop 1).take 7)) (fun t =>
      decide (t.link.rxq = [stopFrame] ∧ t.link.rx = .hunt)) = true := by
  decide +kernel

/-- R209: a byte other than 1 after the start mark. -/
theorem test_frame_refused :
    ran (.frameRefused 2) (inFrame []) (fun t =>
      decide (t.link.rx = .hunt ∧ t.link.errors[(0 : Fin 6)] = 1) && decide (sentPayload t = [0, 0, 0])) = true := by
  decide +kernel

theorem witness_LinkRequestsAndKeyMovesAct :
    (base.takes 0x62 1 [0xFF, 0x0F] = true ∧ argU [(0xFF : Byte), 0x0F] 0 2 < 4096 ∧ 4096 ≤ argU [(0 : Byte), 0x10] 0 2) ∧
    (base.takes 0x61 1 [] = true) ∧
    (base.link.mask.getLsbD 0 = true ∧ base.link.notices.length < 32 ∧ base.link.lost = 0 ∧
      (base.modPanel (fun p => { p with queue := [⟨1, .press, 0, false⟩] })).panel.queue = ⟨1, .press, 0, false⟩ :: [] ∧
      busyTx.link.tx.isSome = true ∧ base.link.tx = none) := by
  decide

/-- R217: the always-on kinds stay on. -/
theorem test_set_notices :
    ran (.setNotices 1 [0, 0]) base (fun t =>
      decide (t.link.mask = 0x0E00) && decide (sentPayload t = [0x00, 0x0E])) = true := by
  decide +kernel

theorem witness_StatusRequestsReadTheState :
    (base.takes 0x60 1 [] = true ∧ base.takes 0x59 1 [] = true ∧ base.takes 0x20 1 [] = true ∧ base.takes 0x2C 1 [] = true ∧
      base.takes 0x43 1 [] = true ∧ base.takes 0x4A 1 [] = true ∧ base.takes 0x18 1 [] = true ∧ base.takes 0x16 1 [] = true) ∧
    (base.takes 0x33 1 [0, 0] = true ∧ base.takes 0x38 1 [] = true ∧ base.takes 0x53 1 [] = true ∧
      base.store.loaded = false ∧ loaded.store.loaded = true ∧ loaded.store.st ≠ .loading) := by
  decide

theorem witness_CursorReadoutIsComputed :
    base.takes 0x41 1 [] = true ∧ base.fld 73 = 0 ∧ (withField base 73 1).fld 73 = 1 ∧
      (withField base 73 1).fld 75 ≠ (withField base 73 1).fld 76 ∧ 0 < tdivOf (base.fld 50) ∧
      (withField (withField base 73 1) 75 350).fld 75 = base.fld 76 ∧ (withField base 73 2).fld 73 = 2 ∧
      base.fld 74 = ((0 : Fin 4).val : Int) ∧ base.fld 11 = 9 := by
  decide +kernel

/-- R164, with the defaults, in TIME. -/
theorem test_cursor_time :
    ran (.cursorRead 1 []) (withField base 73 1) (fun t =>
      decide (sentPayload t = [1, 0] ++ leInt 8 (-2000000) ++ leInt 8 2000000 ++ leInt 8 4000000 ++ [1] ++
        leInt 8 250000000)) = true := by
  decide +kernel

/-- R164, with the defaults, in VOLT. -/
theorem test_cursor_volt :
    ran (.cursorRead 1 []) (withField base 73 2) (fun t =>
      decide (sentPayload t = [2, 0] ++ leInt 8 2000000 ++ leInt 8 (-2000000) ++ leInt 8 4000000 ++ [0] ++
        leInt 8 0)) = true := by
  decide +kernel

theorem witness_CalReadAnswersByEntryState :
    (base.takes 0x55 1 [4, 12] = true ∧ base.store.loaded = false ∧ loaded.store.loaded = true ∧ loaded.store.st ≠ .loading) ∧
    (¬(1 ≤ argU [(5 : Byte), 0] 0 1 ∧ argU [(5 : Byte), 0] 0 1 ≤ 4) ∧
      (51 : Fin 52).val = 13 * (argU [(4 : Byte), 12] 0 1 - 1) + argU [(4 : Byte), 12] 1 1 ∧
      loaded.store.calRam[(51 : Fin 52)] = .unwritten ∧
      (loaded.modStore (fun t => { t with calRam := t.calRam.set 51 (.written 16548 3) })).store.calRam[(51 : Fin 52)] =
        .written 16548 3 ∧
      (loaded.modStore (fun t => { t with calRam := t.calRam.set 51 .corrupt })).store.calRam[(51 : Fin 52)] = .corrupt) := by
  decide

theorem witness_OutputsFollowTheState :
    (State.reset.power.st = .standby ∧ base.power.st ≠ .standby) ∧
    (scanning.disp.scanning = true ∧ scanning.overlayIndex 10 40 = 0 ∧
      (scanning.modOv (fun o => { o with bufA := [(800 * 40 + 10, 3)] })).overlayIndex 10 40 ≠ 0 ∧
      (withField scanning 73 1).cursorAt 150 0 = true ∧ scanning.cursorAt 150 0 = false ∧
      graticuleAt (scanning.fld idGraticule) 0 0 = true ∧ graticuleAt (scanning.fld idGraticule) 1 1 = false) ∧
    (base.disp.scanning = false ∧ ¬(10 ≤ 510 ∧ 510 < 510)) := by
  decide +kernel

/-- A state with a committed record and a command that waits. -/
def sound : State := { holding [recOf 1 0] 1 with pending := [.holdRecord 1 [1, 0, 0, 0]] }

theorem sound_steps : (match step sound with
    | .next t => decide (t.pending = [] ∧ t.ring.lock1 = some 1)
    | _ => false) = true := by
  decide +kernel

theorem witness_EveryStepKeepsTheSetupAdmitted : SetupInv sound where
  live := by unfold Admitted; decide +kernel
  field := by intro i prev src enc tm h; exact absurd h (List.not_mem_nil)
  snapshot := by intro v h; exact absurd h (List.not_mem_nil)
  depth := by decide
  gen := by decide

theorem witness_EveryStepKeepsTheBuffersInTheirAreas : BufferInv sound where
  planes := fun c => by
    have h : sound.disp.planes[c] = [] := by revert c; decide
    rw [h]; exact ⟨rfl, fun _ _ => rfl⟩
  bufA := ⟨rfl, fun _ _ => rfl⟩
  bufB := ⟨rfl, fun _ _ => rfl⟩

theorem witness_EveryStepKeepsTheLinkQueues : LinkInv sound where
  rxq := by decide
  replies := by decide
  notices := by decide
  lost := by decide
  full := by decide
  mask := by decide
  errors := by decide
  rate := by decide
  served := by decide
  down := by decide
  standby := by decide

theorem witness_EveryStepKeepsTheRing : RingInv sound where
  rise := by decide
  numbers := by decide
  slots := by decide
  apart := by decide
  lock1 := by intro n h; cases h
  lock2 := by intro n h; cases h
  pin := by intro n h; cases h
  pending := by decide
  flight := by decide
  filling := by
    intro i
    constructor
    · intro h; exact absurd (List.mem_of_getElem? h) (by decide)
    · rintro (⟨c, h, _⟩ | h)
      · cases h
      · cases h
  one := by intro i j h; exact absurd (List.mem_of_getElem? h) (by decide)
  offers := by decide
  claim := by decide
  rebuild := by decide

theorem witness_EveryStepKeepsTheTimersInTheirStates :
    TimerInv sound ∧ RunInv (sound.modAcq (fun a => { a with cmp := cmpOf true false })) :=
  ⟨⟨by decide, by decide, by decide, by decide⟩, ⟨by decide, by decide, by decide⟩⟩

theorem witness_EveryStepPresentsTheReadiness : FrontInv sound where
  shown := by decide
  wait := by decide
  port := by decide
  settle := by decide
  standby := by intro h; exact absurd h (by decide)
  final := by intro x h; cases h

theorem witness_EveryStepPresentsTheGate : RingInv sound ∧ GateInv sound :=
  ⟨witness_EveryStepKeepsTheRing, by unfold GateInv; decide⟩

/-- On an empty queue the block idles (log entry 1). -/
theorem test_idle : (match step base with
    | .next t => decide (t = base)
    | _ => false) = true := by
  decide +kernel

/-! ### One step of more commands -/

/-- R23: VDIV 13 is clamped to 12; R13: the generation rises. -/
theorem test_set_field :
    ran (.setField 1 (entry 11 13)) base (fun t =>
      sent t .clamped && decide (t.setup.live.at 11 = 12 ∧ t.setup.gen = 1 ∧ sentPayload t = entry 11 12)) = true := by
  decide +kernel

/-- R23: a CHOICE value outside its set is refused. -/
theorem test_set_field_choice :
    ran (.setField 1 (entry 10 2)) base (fun t => sent t .badValue && decide (t.setup = base.setup)) = true := by
  decide +kernel

/-- R24. -/
theorem test_get_field :
    ran (.getField 1 [79, 0]) base (fun t => decide (sentPayload t = entry 79 80)) = true := by decide +kernel

/-- R24: the global group holds seven fields. -/
theorem test_get_group : ran (.getGroup 1 [13]) base (fun t => (sentPayload t).length == 72) = true := by decide +kernel

/-- R25: an entry of another group is refused with its id. -/
theorem test_set_group :
    ran (.setGroup 1 (groupOfEntries 0 [(10, 0), (20, 1)])) base (fun t =>
      sent t .badField && decide (sentPayload t = [20, 0] ∧ t.setup = base.setup)) = true := by
  decide +kernel

/-- R27. -/
theorem test_undo_depth :
    ran (.getUndoDepth 1 []) base (fun t => decide (sentPayload t = [0, 0, 0, 0, 0])) = true := by decide +kernel

/-- R33, R40 and R53: KEY 2, SINGLE, is queued, fires and clicks. -/
theorem test_key_press :
    ran (.keyPress 2) (base.modPanel (fun k => { k with due := [⟨2, true, 5, .single⟩] })) (fun t =>
      decide (t.panel.queue = [⟨2, .press, 5, false⟩] ∧ t.acq.mode = .single ∧ t.panel.tone = some ⟨1, 4000, 3000000⟩)) =
    true := by decide +kernel

/-- R39: the action read when the press was recognised fires, whatever the table holds since. -/
theorem test_key_press_action_of_the_scan :
    ran (.keyPress 2) (base.modPanel (fun k =>
      { k with due := [⟨2, true, 5, .single⟩], actions := k.actions.set 2 ⟨.defaultSetup, false⟩ })) (fun t =>
        decide (t.panel.queue = [] ∧ t.acq.mode = .single ∧ t.setup = base.setup)) = true := by decide +kernel

/-- R33: a RELEASE. -/
theorem test_key_release :
    ran (.keyRelease 2) (base.modPanel (fun k => { k with due := [⟨2, false, 5, .none⟩] })) (fun t =>
      decide (t.panel.queue = [⟨2, .release, 5, false⟩])) = true := by decide +kernel

/-- R32: the next REPEAT falls 80 ms on. -/
theorem test_key_repeat :
    ran (.keyRepeat 17) (withKey 17 ⟨true, 0, false, some 400000000⟩) (fun t =>
      decide (t.panel.queue = [⟨17, .repeated, 400, false⟩] ∧
        t.panel.keys[(17 : Fin 64)].repeatAt = some 480000000)) = true := by decide +kernel

/-- R35: a full queue loses its newest event. -/
theorem test_key_queue_overflow :
    keyArrives (List.replicate 16 ⟨1, .press, 0, false⟩) 2 .press 9 =
      List.replicate 15 ⟨1, .press, 0, false⟩ ++ [⟨2, .press, 9, true⟩] := by decide

/-- R37. -/
theorem test_get_keys :
    ran (.getKeys 1 []) (base.modPanel (fun p => { p with queue := [⟨5, .release, 258, true⟩] })) (fun t =>
      decide (t.panel.queue = [] ∧ sentPayload t = [1, 5, 1, 2, 1, 0, 0, 1])) = true := by decide +kernel

/-- R43: position 0 keeps its entry. -/
theorem test_set_key_action :
    ran (.setKeyAction 1 [0, 1, 0, 1]) base (fun t => sent t .badValue) = true ∧
      ran (.setKeyAction 1 [10, 6, 4, 0]) base (fun t =>
        decide (t.panel.actions[(10 : Fin 64)] = ⟨.channelToggle 3, false⟩)) = true := by decide +kernel

/-- R43 and Table 16: the default action of KEY 30. -/
theorem test_get_key_action :
    ran (.getKeyAction 1 [30]) base (fun t => decide (sentPayload t = [30, 8, 4, 1])) = true := by decide +kernel

/-- R49 and Table 17. -/
theorem test_get_binding :
    ran (.getBinding 1 [10]) base (fun t => decide (sentPayload t = [10, 63, 0, 1, 1])) = true := by decide +kernel

/-- R52: LED 0 in ON under FORCE_OFF is dark. -/
theorem test_set_led :
    ran (.setLed 1 [0, 2]) base (fun t => decide (sentPayload t = [0, 0])) = true ∧
      ran (.setLed 1 [23, 1]) base (fun t => decide (sentPayload t = [23, 1])) = true := by decide +kernel

/-- R50. -/
theorem test_blink :
    ran .ledBlinkToggle (base.modPanel (fun p => { p with blinkGreen := true, blinkEnd := some 250000000 })) (fun t =>
      decide (t.panel.blinkGreen = false ∧ t.panel.blinkEnd = some 500000000)) = true := by decide +kernel

/-- R60: a changed gain starts a transfer of 4 µs. -/
theorem test_fe_announcement :
    ran .feSetupAnnouncement (toFe (withField feReady 11 3) [ann 11 9 3]) (fun t =>
      decide (t.fe.port.map (·.endAt) = some 4000 ∧ t.boxes.settle = [true])) = true := by decide +kernel

/-- R61 and Table 22: VDIV 9 to 10 changes no relay and settles in 200 µs; VDIV 9 to 3 changes DIV100 and takes 6 ms. -/
theorem test_fe_latch :
    ran .feLatch ((withField feReady 11 10).modFe (fun f =>
      { f with port := some ⟨(withField base 11 10).requiredWords, false, false, 4000⟩ })) (fun t =>
        decide (t.fe.settleEnd = some 204000)) = true ∧
    ran .feLatch ((withField feReady 11 3).modFe (fun f =>
      { f with port := some ⟨(withField base 11 3).requiredWords, false, false, 4000⟩ })) (fun t =>
        decide (t.fe.settleEnd = some 6004000)) = true := by decide +kernel

/-- R62 and R63: with the end of the settle timer the front end is READY. -/
theorem test_settle_end :
    ran .settleTimerEnd (feReady.modFe (fun f => { f with settleEnd := some 9, readyShown := false })) (fun t =>
      decide (t.boxes.settle = [false] ∧ t.fe.readyShown = true)) = true := by decide +kernel

/-- R66: FE_READY rises in FE_FAULT. -/
theorem test_fe_ready_rises :
    ran .feReadyRise (withFe (fun f => { f with cond := .fault })) (fun t =>
      decide (t.fe.cond = .up ∧ t.boxes.fault = [false] ∧ t.fe.port.map (·.full) = some true)) = true := by decide +kernel

/-- R95: "settling began" in a capture discards it. -/
theorem test_settling_began :
    ran .settlingBegan ((capturing .armed capOf).modBoxes (fun b => { b with settle := [true] })) (fun t =>
      decide (t.acq.st = .settling ∧ t.acq.discSetup = 1)) = true := by decide +kernel

/-- R99. -/
theorem test_fault :
    ran .faultAnnouncement ((capturing .armed capOf).modBoxes (fun b => { b with fault := [true] })) (fun t =>
      decide (t.acq.st = .stopped ∧ t.acq.fault = true ∧ t.acq.discFault = 1)) = true := by decide +kernel

/-- R98: a TRIG change in POST_FILL is deferred. -/
theorem test_trig_change :
    ran .trigClassChange (toAcq (capturing .postFill capOf) [ann 63 0 5]) (fun t =>
      decide (t.acq.deferred = true ∧ t.acq.cap = some capOf)) = true := by decide +kernel

/-- R70 and R98: with TSRC now CH2 the capture takes the entry of CH2 that was copied at its claim. -/
theorem test_trig_source_entry :
    ran .trigClassChange (toAcq (capturing .armed { capOf with chans := capOf.chans.set 1 ⟨false, 9, 0, ⟨16500, 3, true⟩⟩ }
      |> (withField · 60 1)) [ann 60 0 1]) (fun t => decide (t.acq.cap.map (·.trigCal) = some ⟨16500, 3, true⟩)) = true := by
  decide +kernel

/-- R86 and R87: the auto timer expires. -/
theorem test_auto :
    ran .autoTimerExpiry ((capturing .armed capOf).modAcq (fun a => { a with autoEnd := some 9 })) (fun t =>
      decide (t.acq.st = .postFill ∧ t.acq.lastTrig = some ⟨9, 9, .auto⟩)) = true := by decide +kernel

/-- R100. -/
theorem test_rate_gate :
    ran .rateGateEnd (base.modAcq (fun a => { a with gateEnd := some 1000000000, rateCount := 5 })) (fun t =>
      decide (t.acq.rateHeld = some 5 ∧ t.acq.rateCount = 0 ∧ t.acq.gateEnd = some 2000000000)) = true := by decide +kernel

/-- R115: NEWEST. -/
theorem test_hold_record :
    ran (.holdRecord 1 [0, 0, 0, 0]) (holding [recOf 1 0, recOf 2 1] 2) (fun t =>
      decide (t.ring.lock1 = some 2) && (sentPayload t).length == 45) = true := by decide +kernel

/-- R125: a commit starts a FIRST evaluation. -/
theorem test_evaluation_starts :
    ran .measCommitTaken (toMeas (holding [recOf 1 0] 1) (.commit 1)) (fun t =>
      decide (t.meas.eval.map (·.kind) = some .first ∧ t.meas.ns = 0)) = true := by decide +kernel

/-- R142. -/
theorem test_limit_out :
    ran (.limitOut 1 [1]) base (fun t => decide (t.meas.override = .forceTrue ∧ sentPayload t = [1])) = true ∧
      ran (.limitOut 1 [3]) base (fun t => sent t .badValue) = true := by decide +kernel

/-- R158: a SHOW_RECORD of an absent record. -/
theorem test_show_record : ran (.showRecord 1 [1, 0, 0, 0]) base (fun t => sent t .empty) = true := by decide +kernel

/-- R172: an unknown kind is refused with its position. -/
theorem test_draw :
    ran (.draw 1 [5, 9]) base (fun t => sent t .badValue && decide (sentPayload t = [2, 0] ∧ t.ov = base.ov)) = true ∧
      ran (.draw 1 [5]) base (fun t => sent t .ok && decide (sentPayload t = [1, 1] ∧ t.ov.st = .waitFrame)) = true := by
  decide +kernel

/-- R168 and R178: the frame start makes the swap. -/
theorem test_frame_start :
    ran .frameStart ((drawer .waitFrame [.present]).modDisp (fun d => { d with scanning := true, frameIx := 1 })) (fun t =>
      decide (t.ov.frontB = true ∧ t.ov.scanB = true ∧ t.ov.st = .copying ∧ t.clock.now = 16666666)) = true := by
  decide +kernel

/-- R192: a written entry is not written again. -/
theorem test_cal_write :
    ran (.calWrite 1 [1, 0, 0x00, 0x40, 0]) ((loaded.modPins (fun p => { p with straps := ⟨false, true, false, false⟩ })).modStore
      (fun t => { t with calRam := t.calRam.set 0 (.written 16384 0) })) (fun t => sent t .writeOnce) = true := by
  decide +kernel

/-- R188: an erase is accepted and holds its reply. -/
theorem test_erase :
    ran (.erase 1 [1]) loaded (fun t => decide (t.link.reservations = [⟨1, 0x52⟩] ∧ t.link.tx = none)) = true := by
  decide +kernel

/-- R184: a RECALL before the load. -/
theorem test_recall : ran (.recall 1 [1]) base (fun t => sent t .notNow) = true := by decide +kernel

/-- R200: the forced standby. -/
theorem test_hold :
    ran .holdTimerExpiry (base.modPower (fun p => { p with holdEnd := some 9 })) (fun t =>
      decide (t.power.st = .standby ∧ t.power.forcedOff = true)) = true := by decide +kernel

/-- R205. -/
theorem test_get_power :
    ran (.getPower 1 []) base (fun t => decide (sentPayload t = [2, 0, 0, 0, 0, 0, 0, 0, 0, 0])) = true := by decide +kernel

/-- R210: a break empties the receive queue and leaves the replies. -/
theorem test_break :
    ran .breakDetected (busyTx.modLink (fun l => { l with rxq := [stopFrame], replies := [⟨1, 2, .ok, []⟩] })) (fun t =>
      decide (t.link.rxq = [] ∧ t.link.replies = [⟨1, 2, .ok, []⟩] ∧ t.link.errors[(5 : Fin 6)] = 1)) = true := by
  decide +kernel

/-- R212. -/
theorem test_bad_code : ran (.dispatchBadCode 1 0x7F [1, 2]) base (fun t => sent t .badCode) = true := by decide +kernel

/-- R215: a freed place takes NOTICES_LOST. -/
theorem test_transmit_end :
    ran .transmitFrameEnd ((withNotices busyTx 32).modLink (fun l => { l with lost := 4 })) (fun t =>
      decide (t.link.notices.length = 32 ∧ t.link.notices.getLast? = some (.noticesLost 4) ∧ t.link.lost = 0)) = true := by
  decide +kernel

/-- R216: with a lost count the events wait. -/
theorem test_key_move :
    ran .keyNoticeMove ((busyTx.modPanel (fun p => { p with queue := [⟨1, .press, 0, false⟩] })).modLink (fun l =>
      { l with lost := 1 })) (fun t => decide (t.panel.queue.length = 1)) = true := by decide +kernel

/-- R218: the top condition FAIL. -/
theorem test_get_status :
    ran (.getStatus 1 []) (base.modMeas (fun m => { m with devVerdict := .fail })) (fun t =>
      decide ((sentPayload t).getLast? = some 3) && (sentPayload t).length == 26) = true := by decide +kernel

end Sys2Proof.Tests
end

/-! ### The live setup: SET_FIELD and the requests that read (O5, O6) -/

namespace Sys2Proof.Machine

/-- What the dispatcher makes of an immediate answer of the owner (R212). -/
theorem request_answered {code tag : Byte} {al : Nat → Bool} {ow : List Byte → State → Answer × State} {p : List Byte}
    {s t : State} {st : Status} {q : List Byte} (h : s.takes code tag p = true) (k : al p.length = true)
    (e : ow p s.takeFrame = (.reply st q, t)) :
    request code al ow tag p s = .next (t.pushReply ⟨tag, code, st, q⟩) := by
  rw [request_reply h k (congrArg Prod.fst e), e]

/-! A reply neither announces anything nor leaves the frame of a change of the live setup. -/

theorem Announced.replied {s t : State} {a : SetupAnn} (h : Announced s.takeFrame t a) (r : Reply) :
    Announced s (t.pushReply r) a := by
  have hboxes : (t.pushReply r).boxes = t.boxes := ((Changes.refl [.link] t).pushReply r).get .boxes
  unfold Announced
  rw [hboxes]
  exact h

theorem SetupFrame.replied {s t : State} (h : SetupFrame s.takeFrame t) (r : Reply) :
    SetupFrame s (t.pushReply r) := by
  obtain ⟨hchanges, hmeas, hfe, hboxes⟩ := h
  have c : Changes [.link] t (t.pushReply r) := (Changes.refl _ t).pushReply r
  have hfld (id : Nat) : (t.pushReply r).fld id = t.fld id := by
    unfold State.fld
    rw [pushReply_setup]
  have hm : (t.pushReply r).meas = t.meas := c.get .meas
  have hf : (t.pushReply r).fe = t.fe := c.get .fe
  have hb : (t.pushReply r).boxes = t.boxes := c.get .boxes
  refine ⟨(((Changes.refl _ s).takeFrame).via (List.Subset.refl _) hchanges).pushReply r, ?_, ?_, ?_⟩
  · simp only [hm, hfld]
    exact hmeas
  · rw [hf]
    exact hfe
  · rw [hb]
    exact hboxes

/-! The check of R10 for the sources HOST and KEY. -/

theorem checkValue_refused {f : FieldInfo} {v : Int} (hk : f.kind = .choice) (hv : ¬(f.lo ≤ v ∧ v ≤ f.hi)) :
    checkValue f v = .refused := by
  simp [checkValue, hk, FieldInfo.admits, hv]

/-- A CHOICE value that passes lies in the set, so clamping leaves it as it is. -/
theorem checkValue_value {f : FieldInfo} {v : Int} (h : f.kind = .choice → f.lo ≤ v ∧ v ≤ f.hi) :
    checkValue f v = .value (max f.lo (min v f.hi)) (!f.admits v) := by
  cases hk : f.kind with
  | number | index => simp [checkValue, hk, clampI]
  | choice => simp [checkValue, hk, FieldInfo.admits, h hk]

/-! The Setup Controller's answer to SET_FIELD, one equation per case (R23). -/

section
variable {p : List Byte} {s : State}

theorem ownSetField_unknown (h : fieldIx (entryAt p 0).1 = none) :
    ownSetField p s = (.reply .badField (entryBytes (entryAt p 0).1 0), s) := by
  simp [ownSetField, h]

theorem ownSetField_refused {i : Fin 87} (h : fieldIx (entryAt p 0).1 = some i)
    (hc : checkValue (fieldInfo i) (entryAt p 0).2 = .refused) :
    ownSetField p s = (.reply .badValue (entryBytes (entryAt p 0).1 s.setup.live[i]), s) := by
  simp [ownSetField, h, hc]

/-- A field that takes a value holds it afterwards, whether or not it held it before (R11, R12). -/
theorem applyField_live (s : State) (i : Fin 87) (v : Int) (src : Source) (e : Option (Fin 12)) :
    (s.applyField i v src e).setup.live[i] = v := by
  by_cases h : s.setup.live[i] = v
  · subst h
    rw [applyField_same]
  · simp [(applyField_spec s i v src e h).1]

/-- The status of an applied value is OK exactly when the field admits it, and CLAMPED otherwise. -/
theorem ownSetField_applied {i : Fin 87} (h : fieldIx (entryAt p 0).1 = some i)
    (hc : (fieldInfo i).kind = .choice → (fieldInfo i).lo ≤ (entryAt p 0).2 ∧ (entryAt p 0).2 ≤ (fieldInfo i).hi) :
    ownSetField p s =
      let w := max (fieldInfo i).lo (min (entryAt p 0).2 (fieldInfo i).hi)
      (.reply (if (fieldInfo i).lo ≤ (entryAt p 0).2 ∧ (entryAt p 0).2 ≤ (fieldInfo i).hi then .ok else .clamped)
        (entryBytes (entryAt p 0).1 w), s.applyField i w .host none) := by
  simp only [ownSetField, h, checkValue_value hc, applyField_live]
  by_cases hv : (fieldInfo i).lo ≤ (entryAt p 0).2 ∧ (entryAt p 0).2 ≤ (fieldInfo i).hi <;> simp [FieldInfo.admits, hv]

end

/-! Which meaning the dispatcher gives each of the four requests. -/

theorem exec_setField_eq (tag : Byte) (p : List Byte) (s : State) :
    exec (.setField tag p) s = request 0x01 (len 10) ownSetField tag p s := by
  rfl

theorem exec_getField_eq (tag : Byte) (p : List Byte) (s : State) :
    exec (.getField tag p) s = request 0x02 (len 2) (readOnly ownGetField) tag p s := by
  rfl

theorem exec_getGroup_eq (tag : Byte) (p : List Byte) (s : State) :
    exec (.getGroup tag p) s = request 0x03 (len 1) (readOnly ownGetGroup) tag p s := by
  rfl

theorem exec_getUndoDepth_eq (tag : Byte) (p : List Byte) (s : State) :
    exec (.getUndoDepth tag p) s = request 0x07 (len 0) (readOnly ownGetUndoDepth) tag p s := by
  rfl

/-- R11 for SET_FIELD: a value that differs from the field's is applied with its announcement, and the reply, which no notice
precedes, finds the link as the frame taken left it. -/
theorem applyField_host_replied (s : State) (i : Fin 87) (w : Int) (r : Reply) (h : w ≠ s.setup.live[i]) :
    let t := (s.takeFrame.applyField i w .host none).pushReply r
    t.setup = ⟨s.setup.live.set i w, nextGen s.setup.gen,
        pushUndo s.setup.undo (.field i s.setup.live[i] .host none s.msNow)⟩ ∧
      Announced s t ⟨[⟨(fieldInfo i).id, s.setup.live[i], w⟩], false, .host, nextGen s.setup.gen⟩ ∧
      t.link = (s.takeFrame.pushReply r).link ∧ SetupFrame s t := by
  obtain ⟨hsetup, hann, hframe, hlink⟩ := applyField_spec s.takeFrame i w .host none h.symm
  refine ⟨(pushReply_setup _ r).trans hsetup, hann.replied r, ?_, hframe.replied r⟩
  exact pushReply_link_congr hlink (hframe.1.get .clock) r

/-- Settles O5: the id is looked up, the value checked, and a checked value either is the field's own or is applied. -/
theorem setFieldFollowsItsTable : Obligations.SetFieldFollowsItsTable := by
  intro tag p s hlen htakes id v
  have hl : len 10 p.length = true := by rw [hlen]; exact len_self 10
  rw [exec_setField_eq]
  refine ⟨fun hid => request_answered htakes hl (ownSetField_unknown hid), fun i hi => ?_⟩
  intro f old w status
  refine ⟨fun hchoice hout => ?refused, fun hin hsame => ?same, fun hin hnew => ?changed⟩
  case refused =>
    exact request_answered htakes hl (ownSetField_refused hi (checkValue_refused hchoice hout))
  case same =>
    have hkept : s.takeFrame.applyField i w .host none = s.takeFrame := by
      rw [hsame]
      exact applyField_same s.takeFrame i .host none
    rw [← hsame, request_answered htakes hl (ownSetField_applied hi hin), hkept]
    rfl
  case changed =>
    obtain ⟨hsetup, hann, hlink, hframe⟩ := applyField_host_replied s i w ⟨tag, 0x01, status, entryBytes id w⟩ hnew
    refine ⟨_, request_answered htakes hl (ownSetField_applied hi hin), congrArg SetupCtl.live hsetup,
      congrArg SetupCtl.gen hsetup, congrArg SetupCtl.undo hsetup, ?_, hlink, hframe⟩
    rw [congrArg SetupCtl.gen hsetup]
    exact hann

/-! ### The requests that read -/

/-- R8: the fields of Table 8 stand in increasing id order. -/
theorem fieldIds_increase : ((List.finRange 87).map (fun i => (fieldInfo i).id)).Pairwise (· < ·) := by
  decide +kernel

theorem groupFields_increase (g : Nat) : ((groupFields g).map (fun i => (fieldInfo i).id)).Pairwise (· < ·) :=
  fieldIds_increase.sublist (List.filter_sublist.map _)

theorem mem_groupFields (g : Nat) (i : Fin 87) : i ∈ groupFields g ↔ groupOf (fieldInfo i).id = g := by
  simp [groupFields]

theorem getField_answers (tag : Byte) (p : List Byte) (s : State) (hlen : p.length = 2)
    (htakes : s.takes 0x02 tag p = true) :
    exec (.getField tag p) s = .next (s.replied 0x02 tag (ownGetField p s).1 (ownGetField p s).2) := by
  rw [exec_getField_eq, request_readOnly htakes (by rw [hlen]; exact len_self 2)]
  rfl

theorem getGroup_answers (tag : Byte) (p : List Byte) (s : State) (hlen : p.length = 1)
    (htakes : s.takes 0x03 tag p = true) :
    exec (.getGroup tag p) s = .next (s.replied 0x03 tag (ownGetGroup p s).1 (ownGetGroup p s).2) := by
  rw [exec_getGroup_eq, request_readOnly htakes (by rw [hlen]; exact len_self 1)]
  rfl

theorem getUndoDepth_answers (tag : Byte) (s : State) (htakes : s.takes 0x07 tag [] = true) :
    exec (.getUndoDepth tag []) s =
      .next (s.replied 0x07 tag .ok (one s.setup.undo.length ++ undoDescription s.setup.undo.getLast?)) := by
  rw [exec_getUndoDepth_eq, request_readOnly htakes (len_self 0)]
  rfl

/-- Settles O6: each of the three requests is answered from the state as it stands, by the cases of its answer. -/
theorem setupReadsAnswer : Obligations.SetupReadsAnswer := by
  refine ⟨fun tag p s => ⟨fun hlen htakes => ?field, fun hlen htakes => ?group⟩, fun tag s htakes => ?undo⟩
  case field =>
    rw [getField_answers tag p s hlen htakes]
    constructor
    · intro i hi
      simp [ownGetField, hi]
    · intro hnone
      simp [ownGetField, hnone]
  case group =>
    rw [getGroup_answers tag p s hlen htakes]
    constructor
    · intro hg
      refine ⟨groupFields (argU p 0 1), groupFields_increase _, mem_groupFields _, ?_⟩
      simp [ownGetGroup, hg]
    · intro hg
      simp [ownGetGroup, Nat.not_le.mpr hg]
  case undo =>
    rw [getUndoDepth_answers tag s htakes]
    refine ⟨fun h => ?_, fun rest i prev src e tm h => ?_, fun rest vals h => ?_⟩
    · rw [h]
      rfl
    · simp [h, undoDescription, one, byte]
    · simp [h, undoDescription, one, byte, leBytes]

end Sys2Proof.Machine

/-! ### Calibrated codes and the EDGE comparator (O18) -/

namespace Sys2Proof.Machine

/-! "Rounded" of R2, for a positive divisor. -/

/-- `q` is the integer nearest `a / b`; of two equally near ones, the one farther from zero (R2). -/
structure RoundsTo (a b q : Int) : Prop where
  le_half : 2 * (a - b * q) ≤ b
  neg_half_le : -b ≤ 2 * (a - b * q)
  neg_of_tie : 2 * (a - b * q) = b → q < 0
  pos_of_tie : 2 * (a - b * q) = -b → 0 < q

/-- The rounding of R2 is symmetric about zero. -/
theorem RoundsTo.neg {a b q : Int} (h : RoundsTo a b q) : RoundsTo (-a) b (-q) := by
  have hflip : 2 * (-a - b * -q) = -(2 * (a - b * q)) := by ring
  obtain ⟨hle, hge, hneg, hpos⟩ := h
  constructor <;> rw [hflip] <;> omega

theorem roundDiv_of_nonneg {a b : Int} (ha : 0 ≤ a) (hb : 0 < b) : roundDiv a b = (2 * a + b) / (2 * b) := by
  simp [roundDiv, ha.not_gt, hb.not_gt, abs_of_nonneg ha, abs_of_pos hb]

theorem roundDiv_neg {a b : Int} (ha : 0 < a) (hb : 0 < b) : roundDiv (-a) b = -roundDiv a b := by
  simp [roundDiv, ha, ha.not_gt, hb.not_gt]

/-- Adding half the divisor before the floor division rounds to nearest, a half upward. -/
theorem roundsTo_of_nonneg {a b : Int} (ha : 0 ≤ a) (hb : 0 < b) : RoundsTo a b ((2 * a + b) / (2 * b)) := by
  have hlow : 2 * b * ((2 * a + b) / (2 * b)) ≤ 2 * a + b := Int.mul_ediv_self_le (by omega)
  have hhigh : 2 * a + b < 2 * b * ((2 * a + b) / (2 * b)) + 2 * b := Int.lt_mul_ediv_self_add (by omega)
  generalize (2 * a + b) / (2 * b) = q at hlow hhigh
  rw [mul_assoc] at hlow hhigh
  refine ⟨by omega, by omega, by omega, fun htie => ?_⟩
  have hprod : 0 < b * q := by omega
  exact pos_of_mul_pos_right hprod hb.le

theorem roundDiv_roundsTo (a : Int) {b : Int} (hb : 0 < b) : RoundsTo a b (roundDiv a b) := by
  rcases le_or_gt 0 a with ha | ha
  · rw [roundDiv_of_nonneg ha hb]
    exact roundsTo_of_nonneg ha hb
  · have hpos : 0 < -a := by omega
    have hmirror : roundDiv a b = -((2 * -a + b) / (2 * b)) := by
      rw [← roundDiv_of_nonneg hpos.le hb, ← roundDiv_neg hpos hb, neg_neg]
    rw [hmirror]
    simpa using (roundsTo_of_nonneg hpos.le hb).neg

/-! The calibrated code and its mark (R71, R72). -/

theorem calibrate_code (e : CalEntry) (r : Int) :
    (calibrate e r).1 = max (-512) (min (roundDiv ((r - e.o) * e.g) 16384) 511) := rfl

theorem calibrate_clipped_iff (e : CalEntry) (r : Int) :
    (calibrate e r).2 = true ↔ r = -512 ∨ r = 511 ∨ roundDiv ((r - e.o) * e.g) 16384 < -512 ∨
      511 < roundDiv ((r - e.o) * e.g) 16384 := by
  simp [calibrate]

/-! The comparator at a code (R83): the crossings, the two primings, and what it leaves unchanged. -/

section
variable {k : Comparator} {c : Int}

theorem hysteresis_pos (noise : Int) : 0 < hysteresis noise := by
  unfold hysteresis
  split <;> omega

theorem rising_mem_atCode : true ∈ (k.atCode c).2 ↔ k.risePrimed = true ∧ k.loaded.level ≤ c := by
  simp [Comparator.atCode]

theorem falling_mem_atCode : false ∈ (k.atCode c).2 ↔ k.fallPrimed = true ∧ c ≤ k.loaded.level := by
  simp [Comparator.atCode]

/-- A rising crossing is primed from the hysteresis below the level downward, and keeps its priming up to the level. -/
theorem atCode_risePrimed_iff : (k.atCode c).1.risePrimed = true ↔
    c ≤ k.loaded.level - hysteresis k.loaded.noise ∨ (k.risePrimed = true ∧ c < k.loaded.level) := by
  cases hp : k.risePrimed <;> simp [Comparator.atCode, hp, or_comm]

/-- The mirror image of `atCode_risePrimed_iff`. -/
theorem atCode_fallPrimed_iff : (k.atCode c).1.fallPrimed = true ↔
    k.loaded.level + hysteresis k.loaded.noise ≤ c ∨ (k.fallPrimed = true ∧ k.loaded.level < c) := by
  cases hp : k.fallPrimed <;> simp [Comparator.atCode, hp, or_comm]

theorem atCode_risePrimed_kept (habove : k.loaded.level - hysteresis k.loaded.noise < c) (hbelow : c < k.loaded.level) :
    (k.atCode c).1.risePrimed = k.risePrimed := by
  rw [Bool.eq_iff_iff, atCode_risePrimed_iff]
  simp [hbelow, habove.not_ge]

theorem atCode_fallPrimed_kept (habove : k.loaded.level < c) (hbelow : c < k.loaded.level + hysteresis k.loaded.noise) :
    (k.atCode c).1.fallPrimed = k.fallPrimed := by
  rw [Bool.eq_iff_iff, atCode_fallPrimed_iff]
  simp [habove, hbelow.not_ge]

theorem atCode_risePrimed_cleared (hlevel : k.loaded.level ≤ c) : (k.atCode c).1.risePrimed = false := by
  have hh := hysteresis_pos k.loaded.noise
  rw [← Bool.not_eq_true, atCode_risePrimed_iff]
  rintro (hprime | ⟨-, hbelow⟩) <;> omega

theorem atCode_fallPrimed_cleared (hlevel : c ≤ k.loaded.level) : (k.atCode c).1.fallPrimed = false := by
  have hh := hysteresis_pos k.loaded.noise
  rw [← Bool.not_eq_true, atCode_fallPrimed_iff]
  rintro (hprime | ⟨-, habove⟩) <;> omega

@[simp] theorem atCode_loaded : (k.atCode c).1.loaded = k.loaded := rfl
@[simp] theorem atCode_running : (k.atCode c).1.running = k.running := rfl
@[simp] theorem atCode_last : (k.atCode c).1.last = k.last := rfl

end

/-- Settles O18: the calibrated code by the rounding of R2, the comparator by where the code lies against the level. -/
theorem codesAreCalibratedAndCompared : Obligations.CodesAreCalibratedAndCompared := by
  refine ⟨fun e r => ?code, fun k c => ?comparator⟩
  case code =>
    obtain ⟨hle, hge, hneg, hpos⟩ := roundDiv_roundsTo ((r - e.o) * e.g) (b := 16384) (by omega)
    exact ⟨⟨hle, hge⟩, hneg, hpos, calibrate_code e r, calibrate_clipped_iff e r⟩
  case comparator =>
    have hrise (hprime : c ≤ k.loaded.level - hysteresis k.loaded.noise) : (k.atCode c).1.risePrimed = true :=
      atCode_risePrimed_iff.2 (.inl hprime)
    have hfall (hprime : k.loaded.level + hysteresis k.loaded.noise ≤ c) : (k.atCode c).1.fallPrimed = true :=
      atCode_fallPrimed_iff.2 (.inl hprime)
    exact ⟨rising_mem_atCode, falling_mem_atCode,
      hrise, atCode_risePrimed_kept, atCode_risePrimed_cleared,
      hfall, atCode_fallPrimed_kept, atCode_fallPrimed_cleared,
      atCode_loaded, atCode_running, atCode_last⟩

end Sys2Proof.Machine

/-! ### The measurement kinds (O32) -/

namespace Sys2Proof.Machine

/-! The values of a source channel over the screen window, in the order of R129. -/

section
variable {mode : Int} {w : List PointRow} {c : Fin 4} {start : Nat}

/-- The values that one point gives (R129). -/
def pointValues (mode : Int) (row : PointRow) (c : Fin 4) : List Int :=
  if mode = 1 then [row[c].lo, row[c].hi] else [row[c].lo]

theorem valuesOf_eq_flatMap : valuesOf mode w c = w.flatMap (fun row => pointValues mode row c) := by
  unfold valuesOf pointValues
  split
  · rfl
  · exact List.map_eq_flatMap

theorem mem_valuesOf {x : Int} :
    x ∈ valuesOf mode w c ↔ ∃ row ∈ w, x = row[c].lo ∨ (mode = 1 ∧ x = row[c].hi) := by
  unfold valuesOf
  split <;> simp_all [eq_comm]

@[simp] theorem valuesOf_cons (row : PointRow) :
    valuesOf mode (row :: w) c = pointValues mode row c ++ valuesOf mode w c := by
  simp [valuesOf_eq_flatMap]

theorem valueIndices_cons (row : PointRow) : valueIndices mode start (row :: w) =
    (pointValues mode row c).map (fun _ => start) ++ valueIndices mode (start + 1) w := by
  unfold valueIndices pointValues
  split <;> simp [List.range_succ_eq_map, List.flatMap_map, Function.comp_def, ← Nat.add_assoc, Nat.add_right_comm start 1]

/-- The values with their point indices, point by point: what R132 scans. -/
theorem flatMap_range_eq_zip_valueIndices (g : Nat → List (Int × Nat))
    (hg : ∀ i row, w[i]? = some row → g i = (pointValues mode row c).map (fun x => (x, start + i))) :
    (List.range w.length).flatMap g = (valuesOf mode w c).zip (valueIndices mode start w) := by
  induction w generalizing g start with
  | nil => simp [valuesOf, valueIndices]
  | cons row w ih =>
    have hhead : g 0 = (pointValues mode row c).map (fun x => (x, start)) := hg 0 row rfl
    have htail := ih (start := start + 1) (fun i => g (i + 1)) (fun i r hr => by
      rw [hg (i + 1) r hr, Nat.add_right_comm, Nat.add_assoc])
    have hpoint : (pointValues mode row c).map (fun x => (x, start)) =
        (pointValues mode row c).zip ((pointValues mode row c).map (fun _ => start)) := by
      simpa using (List.zip_map' (f := id) (g := fun _ => start) (l := pointValues mode row c)).symm
    rw [valuesOf_cons, valueIndices_cons (c := c), List.zip_append (by simp), ← htail, ← hpoint, ← hhead,
      List.length_cons, List.range_succ_eq_map, List.flatMap_cons, List.flatMap_map]

end

/-! The extremes of R129. -/

section
variable {l : List Int} {x : Int}

theorem maxOf_eq (h : IsGreatest {y | y ∈ l} x) : maxOf l = x := by
  have hmax : l.max? = some x := List.max?_eq_some_iff.2 h
  cases l with
  | nil => simp at hmax
  | cons y l =>
    rw [List.max?_cons'] at hmax
    exact Option.some.inj hmax

theorem minOf_eq (h : IsLeast {y | y ∈ l} x) : minOf l = x := by
  have hmin : l.min? = some x := List.min?_eq_some_iff.2 h
  cases l with
  | nil => simp at hmin
  | cons y l =>
    rw [List.min?_cons'] at hmin
    exact Option.some.inj hmin

end

/-! One code is V_div / 100 µV (R129). -/

theorem vdivOf_range {ix : Int} (h0 : 0 ≤ ix) (h12 : ix ≤ 12) : 100 ∣ vdivOf ix ∧ vdivOf ix ≤ 10000000 := by
  interval_cases ix <;> decide

theorem scaled_exact {v : Nat} (hv : 100 ∣ v) (x : Int) : x * v / 100 * 100 = x * v :=
  Int.ediv_mul_cancel (dvd_mul_of_dvd_right (by exact_mod_cast hv) x)

/-! The integer root of R2. -/

/-- The search keeps its candidate below the root and fewer than `2 ^ k` away from it. -/
theorem isqrtFrom_eq_sqrt {x : Nat} : ∀ {k r : Nat}, r * r ≤ x → x < (r + 2 ^ k) * (r + 2 ^ k) →
    isqrtFrom x k r = Nat.sqrt x
  | 0, _, hlow, hhigh => Nat.eq_sqrt.2 ⟨hlow, hhigh⟩
  | k + 1, r, hlow, hhigh => by
    unfold isqrtFrom
    split
    case isTrue hbit =>
      refine isqrtFrom_eq_sqrt hbit ?_
      rwa [add_assoc, ← two_mul, ← pow_succ']
    case isFalse hbit => exact isqrtFrom_eq_sqrt hlow (Nat.not_le.1 hbit)

theorem isqrt_eq_sqrt {x : Nat} (h : x < 2 ^ 192) : isqrt x = Nat.sqrt x :=
  isqrtFrom_eq_sqrt (Nat.zero_le x) (by omega)

/-- `r` is the integer nearest the exact root of `p / q`, halves upward (R2), said without the root. -/
structure NearestRoot (p q r : Int) : Prop where
  nonneg : 0 ≤ r
  lt_above : 4 * p < (2 * r + 1) ^ 2 * q
  le_below : r ≠ 0 → (2 * r - 1) ^ 2 * q ≤ 4 * p

theorem rootDiv_nearest {p q : Nat} (hq : 0 < q) (hsize : 4 * p < 2 ^ 192 * q) : NearestRoot p q (rootDiv p q) := by
  have hroot : isqrt (4 * p / q) = Nat.sqrt (4 * p / q) := isqrt_eq_sqrt ((Nat.div_lt_iff_lt_mul hq).2 hsize)
  have hlow : Nat.sqrt (4 * p / q) ^ 2 * q ≤ 4 * p := (Nat.le_div_iff_mul_le hq).1 (Nat.sqrt_le' _)
  have hhigh : 4 * p < (Nat.sqrt (4 * p / q) + 1) ^ 2 * q := (Nat.div_lt_iff_lt_mul hq).1 (Nat.lt_succ_sqrt' _)
  unfold rootDiv
  rw [hroot]
  generalize Nat.sqrt (4 * p / q) = s at hlow hhigh
  refine ⟨by positivity, ?_, fun hr => ?_⟩
  · have hs : s + 1 ≤ 2 * ((s + 1) / 2) + 1 := by omega
    exact_mod_cast hhigh.trans_le (by gcongr)
  · have hs : 2 * (((s + 1) / 2 : Nat) : Int) - 1 ≤ s := by omega
    calc (2 * (((s + 1) / 2 : Nat) : Int) - 1) ^ 2 * (q : Int)
        ≤ (s : Int) ^ 2 * (q : Int) := by gcongr; omega
      _ ≤ 4 * (p : Int) := by exact_mod_cast hlow

/-- The scaling of R130: a mean square `d / n` of codes, whose root is wanted in µV. -/
theorem rootDiv_scaled_nearest {d n v : Nat} (hn : 0 < n) (hd : d ≤ 2 ^ 18 * n) (hv : v ≤ 10000000) :
    NearestRoot (d * v ^ 2) (n * 10000) (rootDiv (d * (v * v)) (n * 10000)) := by
  have hscaled : d * (v * v) ≤ 2 ^ 18 * n * (10000000 * 10000000) := by gcongr
  have hroot := rootDiv_nearest (p := d * (v * v)) (q := n * 10000) (by omega) (by omega)
  rw [pow_two]
  exact_mod_cast hroot

/-! MEAN, RMS_DC and RMS_AC, inside the zero band and outside it (R130). -/

section
variable {l : List Int} {v : Nat} {zb : Int}

theorem sumSquares_cast : (sumSquares l : Int) = (l.map (fun x => x * x)).sum := by
  unfold sumSquares
  induction l with
  | nil => rfl
  | cons x l ih => simp [ih]

theorem sumSquares_le (hl : ∀ x ∈ l, -512 ≤ x ∧ x ≤ 511) : sumSquares l ≤ 2 ^ 18 * l.length := by
  have hsquare : ∀ y ∈ l.map (fun x => x.natAbs * x.natAbs), y ≤ 2 ^ 18 := by
    intro y hy
    obtain ⟨x, hx, rfl⟩ := List.mem_map.1 hy
    have habs : x.natAbs ≤ 512 := by
      have := hl x hx
      omega
    exact (Nat.mul_le_mul habs habs).trans (by norm_num)
  simpa [sumSquares, mul_comm] using List.sum_le_card_nsmul _ _ hsquare

/-- R130: N × Q2 − S² is never negative. -/
theorem sq_sum_le_length_mul_sumSquares : l.sum ^ 2 ≤ l.length * (sumSquares l : Int) := by
  have h := sq_sum_le_card_mul_sum_sq (s := Finset.univ) (f := fun i : Fin l.length => l[i.1])
  rw [Fin.sum_univ_getElem, Fin.sum_univ_fun_getElem l (· ^ 2)] at h
  simpa [sumSquares_cast, pow_two] using h

/-- The numerator of RMS_AC, `N × Q2 − S²` (R130), as the model forms it. -/
def spread (l : List Int) : Nat := l.length * sumSquares l - l.sum.natAbs * l.sum.natAbs

theorem spread_cast : (spread l : Int) = l.length * (sumSquares l : Int) - l.sum ^ 2 := by
  have hle : l.sum.natAbs * l.sum.natAbs ≤ l.length * sumSquares l := by
    zify
    simpa [← pow_two] using sq_sum_le_length_mul_sumSquares (l := l)
  unfold spread
  push_cast [hle]
  simp [← pow_two]

theorem spread_le (hl : ∀ x ∈ l, -512 ≤ x ∧ x ≤ 511) : spread l ≤ 2 ^ 18 * (l.length * l.length) := by
  calc spread l ≤ l.length * sumSquares l := Nat.sub_le _ _
    _ ≤ l.length * (2 ^ 18 * l.length) := by gcongr; exact sumSquares_le hl
    _ = 2 ^ 18 * (l.length * l.length) := by ring

theorem meanOf_zeroed (h : |l.sum| < zb * l.length) : meanOf l v zb = (.zeroed, 0) := by
  rw [← Int.natCast_natAbs] at h
  exact if_pos h

theorem meanOf_valid (h : zb * l.length ≤ |l.sum|) :
    meanOf l v zb = (.valid, roundDiv (l.sum * v) (100 * l.length)) := by
  rw [← Int.natCast_natAbs] at h
  exact if_neg h.not_gt

theorem rmsDcOf_zeroed (h : (sumSquares l : Int) < zb ^ 2 * l.length) : rmsDcOf l v zb = (.zeroed, 0) := by
  simp [rmsDcOf, ← pow_two, h]

theorem rmsDcOf_valid (hne : l ≠ []) (hl : ∀ x ∈ l, -512 ≤ x ∧ x ≤ 511) (hv : v ≤ 10000000)
    (h : zb ^ 2 * l.length ≤ sumSquares l) :
    ∃ r, rmsDcOf l v zb = (.valid, r) ∧ NearestRoot (sumSquares l * v ^ 2) (l.length * 10000) r := by
  refine ⟨rootDiv (sumSquares l * (v * v)) (l.length * 10000), ?_, ?_⟩
  · simp [rmsDcOf, ← pow_two zb, h.not_gt]
  · exact rootDiv_scaled_nearest (List.length_pos_iff.2 hne) (sumSquares_le hl) hv

theorem rmsAcOf_zeroed (h : (spread l : Int) < zb ^ 2 * l.length ^ 2) : rmsAcOf l v zb = (.zeroed, 0) := by
  rw [pow_two, pow_two, ← mul_assoc] at h
  exact if_pos h

theorem rmsAcOf_valid (hne : l ≠ []) (hl : ∀ x ∈ l, -512 ≤ x ∧ x ≤ 511) (hv : v ≤ 10000000)
    (h : zb ^ 2 * l.length ^ 2 ≤ spread l) :
    ∃ r, rmsAcOf l v zb = (.valid, r) ∧ NearestRoot (spread l * v ^ 2) (l.length ^ 2 * 10000) r := by
  have hn : 0 < l.length := List.length_pos_iff.2 hne
  have hroot := rootDiv_scaled_nearest (Nat.mul_pos hn hn) (spread_le hl) hv
  rw [Nat.cast_mul, ← pow_two] at hroot
  rw [pow_two, pow_two, ← mul_assoc] at h
  exact ⟨_, if_neg h.not_gt, hroot⟩

end

/-! The rising crossings of R132: the scan with its primed flag against the values by position. -/

section
variable {mid hy : Int} {l : List (Int × Nat)}

/-- Position `k` is reached with the flag set: a value below the band lies before it, and none above the band since. -/
def PrimedAt (mid hy : Int) (l : List (Int × Nat)) (k : Nat) : Prop :=
  ∃ b < k, ∃ y, l[b]? = some y ∧ y.1 ≤ mid - hy ∧ ∀ m, b < m → m < k → ∀ z, l[m]? = some z → z.1 < mid + hy

/-- The value at position `k` is a rising crossing. -/
def CrossesAt (mid hy : Int) (l : List (Int × Nat)) (k : Nat) : Prop :=
  ∃ x, l[k]? = some x ∧ mid + hy ≤ x.1 ∧ PrimedAt mid hy l k

/-- The point index of the value at position `k`. -/
def pointIndexAt (l : List (Int × Nat)) (k : Nat) : Nat := (l[k]?.map Prod.snd).getD 0

theorem not_primedAt_zero : ¬PrimedAt mid hy l 0 := by
  rintro ⟨b, hb, -⟩
  exact absurd hb (Nat.not_lt_zero b)

/-- A value below the band sets the flag; one below the band's top keeps it. -/
theorem primedAt_succ_iff {k : Nat} {x : Int × Nat} (hx : l[k]? = some x) : PrimedAt mid hy l (k + 1) ↔
    (PrimedAt mid hy l k ∧ x.1 < mid + hy) ∨ x.1 ≤ mid - hy := by
  constructor
  · rintro ⟨b, hb, y, hyb, hlow, hbetween⟩
    rcases Nat.lt_succ_iff_lt_or_eq.1 hb with hbk | rfl
    · exact .inl ⟨⟨b, hbk, y, hyb, hlow, fun m hbm hmk => hbetween m hbm (by omega)⟩, hbetween k hbk (by omega) x hx⟩
    · rw [hx] at hyb
      cases hyb
      exact .inr hlow
  · rintro (⟨⟨b, hb, y, hyb, hlow, hbetween⟩, hxlow⟩ | hlow)
    · refine ⟨b, by omega, y, hyb, hlow, fun m hbm hmk z hz => ?_⟩
      rcases Nat.lt_succ_iff_lt_or_eq.1 hmk with hlt | rfl
      · exact hbetween m hbm hlt z hz
      · rw [hx] at hz
        cases hz
        exact hxlow
    · exact ⟨k, by omega, x, hx, hlow, fun m hkm hmk => by omega⟩

theorem crossesAt_iff {k : Nat} {x : Int × Nat} (hx : l[k]? = some x) :
    CrossesAt mid hy l k ↔ PrimedAt mid hy l k ∧ mid + hy ≤ x.1 := by
  unfold CrossesAt
  rw [hx]
  simp [and_comm]

theorem CrossesAt.lt_length {k : Nat} (h : CrossesAt mid hy l k) : k < l.length := by
  obtain ⟨x, hx, -⟩ := h
  exact (List.getElem?_eq_some_iff.1 hx).1

/-- Steps 2 and 3 of R132 from position `k` on: the scan records the point indices of the crossings, in increasing order
of their positions. -/
theorem risingIndices_drop (primed : Bool) (rest : List (Int × Nat)) (k : Nat) (hrest : l.drop k = rest)
    (hprimed : primed = true ↔ PrimedAt mid hy l k) :
    ∃ ks : List Nat, ks.Pairwise (· < ·) ∧ (∀ p, p ∈ ks ↔ k ≤ p ∧ CrossesAt mid hy l p) ∧
      risingIndices mid hy primed rest = ks.map (pointIndexAt l) := by
  induction rest generalizing primed k with
  | nil =>
    have hlen : l.length ≤ k := List.drop_eq_nil_iff.1 hrest
    refine ⟨[], List.Pairwise.nil, fun p => ⟨fun hp => absurd hp List.not_mem_nil, fun ⟨hkp, hp⟩ => ?_⟩, rfl⟩
    exact absurd hp.lt_length (by omega)
  | cons x rest ih =>
    have hx : l[k]? = some x := by rw [← Nat.add_zero k, ← List.getElem?_drop, hrest]; rfl
    have hnext : l.drop (k + 1) = rest := by rw [← List.drop_drop, hrest]; rfl
    have hcross : (primed && decide (mid + hy ≤ x.1)) = true ↔ CrossesAt mid hy l k := by
      rw [crossesAt_iff hx, Bool.and_eq_true, hprimed, decide_eq_true_iff]
    obtain ⟨ks, hsorted, hmem, heq⟩ := ih
      ((primed && !(primed && decide (mid + hy ≤ x.1))) || decide (x.1 ≤ mid - hy)) (k + 1) hnext (by
        rw [primedAt_succ_iff hx, ← hprimed]
        cases primed <;> simp)
    unfold risingIndices
    by_cases hc : CrossesAt mid hy l k
    · refine ⟨k :: ks, List.pairwise_cons.2 ⟨fun p hp => ((hmem p).1 hp).1, hsorted⟩, fun p => ?_, ?_⟩
      · rw [List.mem_cons, hmem]
        constructor
        · rintro (rfl | ⟨hkp, hp⟩)
          · exact ⟨le_rfl, hc⟩
          · exact ⟨by omega, hp⟩
        · rintro ⟨hkp, hp⟩
          rcases hkp.eq_or_lt with rfl | hlt
          · exact .inl rfl
          · exact .inr ⟨hlt, hp⟩
      · dsimp only
        rw [if_pos (hcross.2 hc), heq]
        simp [pointIndexAt, hx]
    · refine ⟨ks, hsorted, fun p => ?_, ?_⟩
      · rw [hmem]
        constructor
        · rintro ⟨hkp, hp⟩
          exact ⟨by omega, hp⟩
        · rintro ⟨hkp, hp⟩
          rcases hkp.eq_or_lt with rfl | hlt
          · exact absurd hp hc
          · exact ⟨hlt, hp⟩
      · dsimp only
        rw [if_neg (mt hcross.1 hc), heq]

/-- The scan of the whole window, whose flag is clear at the first value, against any listing of the crossings. -/
theorem risingIndices_eq_map {ks : List Nat} (hsorted : ks.Pairwise (· < ·)) (hks : ∀ p, p ∈ ks ↔ CrossesAt mid hy l p) :
    risingIndices mid hy false l = ks.map (pointIndexAt l) := by
  obtain ⟨ks', hsorted', hmem, heq⟩ := risingIndices_drop (mid := mid) (hy := hy) (l := l) false l 0 rfl (by
    simp [not_primedAt_zero])
  have hsame : ks' = ks := hsorted'.eq_of_mem_iff hsorted (fun p => by simp [hmem, hks])
  rw [heq, hsame]

end

/-! PERIOD (R132), from any listing of the crossings by position. -/

section
variable {vals : List Int} {ixs ks : List Nat} {d : Nat} {mx mn : Int}

theorem periodOf_flat (hmx : maxOf vals = mx) (hmn : minOf vals = mn) (hflat : mx - mn < 4) :
    periodOf vals ixs d = none := by
  simp [periodOf, hmx, hmn, hflat]

theorem periodOf_fewCrossings (hmx : maxOf vals = mx) (hmn : minOf vals = mn) (hsorted : ks.Pairwise (· < ·))
    (hks : ∀ p, p ∈ ks ↔ CrossesAt ((mx + mn) / 2) (max 1 ((mx - mn) / 20)) (vals.zip ixs) p) (hfew : ks.length < 2) :
    periodOf vals ixs d = none := by
  have hscan := risingIndices_eq_map hsorted hks
  unfold periodOf
  rw [hmx, hmn]
  simp only [hscan, List.length_map, hfew, if_true]
  split
  · rfl
  · split <;> rfl

theorem periodOf_crossings (hmx : maxOf vals = mx) (hmn : minOf vals = mn) (hswing : 4 ≤ mx - mn)
    (hsorted : ks.Pairwise (· < ·))
    (hks : ∀ p, p ∈ ks ↔ CrossesAt ((mx + mn) / 2) (max 1 ((mx - mn) / 20)) (vals.zip ixs) p)
    {a b : Nat} {ms : List Nat} {x y : Int × Nat} (hends : ks = a :: ms ++ [b]) (ha : (vals.zip ixs)[a]? = some x)
    (hb : (vals.zip ixs)[b]? = some y) :
    periodOf vals ixs d = some (roundDiv (((y.2 - x.2) * d * 1000 : Nat) : Int) ((ks.length - 1 : Nat) : Int)) := by
  have hscan := risingIndices_eq_map hsorted hks
  have hfirst : pointIndexAt (vals.zip ixs) a = x.2 := by simp [pointIndexAt, ha]
  have hlast : pointIndexAt (vals.zip ixs) b = y.2 := by simp [pointIndexAt, hb]
  unfold periodOf
  rw [hmx, hmn]
  simp [hswing.not_gt, hscan, hends, List.getLast?_cons, hfirst, hlast]

end

/-! The result of a slot by kind and source (R129, R133). -/

section
variable {e : Eval} {rate : Option Nat} {j : Fin 6} {c : Fin 4}

@[simp] theorem chanOf_val (c : Fin 4) : chanOf (c.val : Int) = some c := by
  simp [chanOf]

theorem form_triggerRate (h : e.cfg[j].kind = 9) (n : Nat) :
    e.form (some n) j = ⟨n, .valid, false, some e.record, e.kind⟩ :=
  if_pos h

theorem form_noTriggerRate (h : e.cfg[j].kind = 9) :
    e.form none j = ⟨0, .noResult, false, some e.record, e.kind⟩ :=
  if_pos h

theorem form_withoutPoints (h9 : e.cfg[j].kind ≠ 9) (hsrc : e.cfg[j].src = (c.val : Int))
    (h : e.cfg[j].kind = 0 ∨ e.chans[c].on = false) :
    e.form rate j = ⟨0, .noResult, false, some e.record, e.kind⟩ := by
  unfold Eval.form
  simp only [h9, hsrc, chanOf_val, h, if_true, if_false]

/-- The value and status that a kind gives on the window's points of a channel. -/
def Eval.formed (e : Eval) (kind : Int) (c : Fin 4) : Formed :=
  formPoints kind (valuesOf e.mode e.window c) (valueIndices e.mode e.geom.start e.window) (vdivOf e.chans[c].vdiv)
    (2 ^ e.geom.dExp) e.zeroband

theorem form_points (h9 : e.cfg[j].kind ≠ 9) (h0 : e.cfg[j].kind ≠ 0) (hsrc : e.cfg[j].src = (c.val : Int))
    (hon : e.chans[c].on = true) : e.form rate j =
      ⟨(e.formed e.cfg[j].kind c).2, (e.formed e.cfg[j].kind c).1, e.window.any (fun p => p[c].clipped),
        some e.record, e.kind⟩ := by
  unfold Eval.form
  simp only [h9, h0, hsrc, hon, chanOf_val, if_false, Bool.true_eq_false, or_self]
  rfl

theorem form_kind {k : Int} (hk : e.cfg[j].kind = k) (h9 : k ≠ 9) (h0 : k ≠ 0) (hsrc : e.cfg[j].src = (c.val : Int))
    (hon : e.chans[c].on = true) : ((e.form rate j).status, (e.form rate j).value) = e.formed k c := by
  subst hk
  rw [form_points h9 h0 hsrc hon]

theorem formed_peakToPeak : e.formed 4 c =
    (.valid, (maxOf (valuesOf e.mode e.window c) - minOf (valuesOf e.mode e.window c)) * vdivOf e.chans[c].vdiv / 100) :=
  rfl

theorem formed_max : e.formed 5 c = (.valid, maxOf (valuesOf e.mode e.window c) * vdivOf e.chans[c].vdiv / 100) := rfl

theorem formed_min : e.formed 6 c = (.valid, minOf (valuesOf e.mode e.window c) * vdivOf e.chans[c].vdiv / 100) := rfl

/-- The period of a channel's values over the window, whose point index advances by one every `2 ^ dExp` ns. -/
def Eval.period (e : Eval) (c : Fin 4) : Option Int :=
  periodOf (valuesOf e.mode e.window c) (valueIndices e.mode e.geom.start e.window) (2 ^ e.geom.dExp)

theorem formed_noPeriod {k : Int} (hk : k = 7 ∨ k = 8) (h : e.period c = none) : e.formed k c = (.noResult, 0) := by
  unfold Eval.period at h
  rcases hk with rfl | rfl <;> simp [Eval.formed, formPoints, h]

theorem formed_period {k t : Int} (hk : k = 7 ∨ k = 8) (h : e.period c = some t) :
    e.formed k c = (.valid, if k = 7 then t else freqOf t) := by
  unfold Eval.period at h
  rcases hk with rfl | rfl <;> simp [Eval.formed, formPoints, h]

end

/-- Settles O32: kind by kind, from the extremes, the sums and the crossings of the window's values. -/
theorem extremesAreExact : Obligations.ExtremesAreExact := by
  refine ⟨fun e rate j => ⟨fun h9 => ?rate, fun c h9 hsrc => ⟨fun hnone => ?absent, fun h0 hon => ?clipped⟩⟩,
    fun e rate j c mx mn hsrc hon hv0 hv12 => ?points⟩
  case rate =>
    cases rate with
    | none => simp [form_noTriggerRate h9]
    | some n => simp [form_triggerRate h9]
  case absent =>
    rw [form_withoutPoints h9 hsrc hnone]
    exact ⟨rfl, rfl, rfl⟩
  case clipped =>
    rw [form_points h9 h0 hsrc hon]
    exact List.any_eq_true
  case points =>
    intro v value hmaxMem hminMem hbounds hpairs f
    obtain ⟨hv100, hvmax⟩ := vdivOf_range hv0 hv12
    have hmx : maxOf (valuesOf e.mode e.window c) = mx :=
      maxOf_eq ⟨mem_valuesOf.2 hmaxMem, fun x hx => (hbounds x (mem_valuesOf.1 hx)).2⟩
    have hmn : minOf (valuesOf e.mode e.window c) = mn :=
      minOf_eq ⟨mem_valuesOf.2 hminMem, fun x hx => (hbounds x (mem_valuesOf.1 hx)).1⟩
    have hform {k : Int} (hk : e.cfg[j].kind = k) (h9 : k ≠ 9) (h0 : k ≠ 0) {r : Formed} (hr : e.formed k c = r) :
        f.status = r.1 ∧ f.value = r.2 := Prod.ext_iff.1 ((form_kind hk h9 h0 hsrc hon).trans hr)
    have hscaled {x : Int} (h : f.status = .valid ∧ f.value = x * v / 100) : f.status = .valid ∧ f.value * 100 = x * v :=
      ⟨h.1, by rw [h.2, scaled_exact hv100]⟩
    have hpkpk (hk : e.cfg[j].kind = 4) : f.status = .valid ∧ f.value * 100 = (mx - mn) * v :=
      hscaled (hmx ▸ hmn ▸ hform hk (by decide) (by decide) formed_peakToPeak)
    refine ⟨hpkpk,
      fun hk => hscaled (hmx ▸ hform hk (by decide) (by decide) formed_max),
      fun hk => hscaled (hmn ▸ hform hk (by decide) (by decide) formed_min),
      fun hpeak => ?pairs, fun hk hlo hhi => ?bound, fun hk hv hlo hhi => ?largest, fun hlo hhi _ => ?levels,
      fun hk => ?period⟩
    case pairs =>
      obtain ⟨top, htop, hmaxRow⟩ := hmaxMem
      obtain ⟨bottom, hbottom, hminRow⟩ := hminMem
      have hmaxHi := hbounds top[c].hi ⟨top, htop, .inr ⟨hpeak, rfl⟩⟩
      have hminLo := hbounds bottom[c].lo ⟨bottom, hbottom, .inl rfl⟩
      have htopPair := hpairs hpeak top htop
      have hbottomPair := hpairs hpeak bottom hbottom
      exact ⟨⟨top, htop, by omega⟩, ⟨bottom, hbottom, by omega⟩⟩
    case bound =>
      obtain ⟨-, hvalue⟩ := hpkpk hk
      have hlargest : (mx - mn) * v ≤ 1023 * 10000000 := by
        gcongr
        · omega
        · exact_mod_cast hvmax
      omega
    case largest =>
      obtain ⟨-, hvalue⟩ := hpkpk hk
      have hv' : v = 10000000 := congrArg vdivOf hv
      rw [hv', hlo, hhi] at hvalue
      exact ⟨hv', by omega⟩
    case levels =>
      intro vals n sum q2 zb zeroed rootOf
      have hvals : valuesOf e.mode e.window c = vals := valuesOf_eq_flatMap
      have hcodes : ∀ x ∈ vals, -512 ≤ x ∧ x ≤ 511 := fun x hx => by
        have := hbounds x (mem_valuesOf.1 (hvals ▸ hx))
        omega
      have hne : vals ≠ [] := List.ne_nil_of_mem (hvals ▸ mem_valuesOf.2 hmaxMem)
      have hq2 : (sumSquares vals : Int) = q2 := sumSquares_cast
      have hspread : (spread vals : Int) = n * q2 - sum ^ 2 := by rw [spread_cast, hq2]
      have hroot {p q r : Int} (h : f.status = .valid ∧ f.value = r) (hr : NearestRoot p q r) : rootOf p q := by
        obtain ⟨hstatus, rfl⟩ := h
        exact ⟨hstatus, hr.nonneg, hr.lt_above, hr.le_below⟩
      refine ⟨fun hk => ?mean, fun hk => ?rmsDc, fun hk => ?rmsAc⟩
      case mean =>
        have hmean : e.formed 1 c = meanOf vals v zb := congrArg (meanOf · v zb) hvals
        exact ⟨fun h => hform hk (by decide) (by decide) (hmean.trans (meanOf_zeroed h)),
          fun h => hform hk (by decide) (by decide) (hmean.trans (meanOf_valid h))⟩
      case rmsDc =>
        have hrms : e.formed 2 c = rmsDcOf vals v zb := congrArg (rmsDcOf · v zb) hvals
        rw [← hq2]
        refine ⟨fun h => hform hk (by decide) (by decide) (hrms.trans (rmsDcOf_zeroed h)), fun h => ?_⟩
        obtain ⟨r, hvalid, hr⟩ := rmsDcOf_valid hne hcodes hvmax h
        exact hroot (hform hk (by decide) (by decide) (hrms.trans hvalid)) hr
      case rmsAc =>
        have hrms : e.formed 3 c = rmsAcOf vals v zb := congrArg (rmsAcOf · v zb) hvals
        rw [← hspread]
        refine ⟨fun h => hform hk (by decide) (by decide) (hrms.trans (rmsAcOf_zeroed h)), fun h => ?_⟩
        obtain ⟨r, hvalid, hr⟩ := rmsAcOf_valid hne hcodes hvmax h
        exact hroot (hform hk (by decide) (by decide) (hrms.trans hvalid)) hr
    case period =>
      intro vals mid hy crosses
      have hvals : vals = (valuesOf e.mode e.window c).zip (valueIndices e.mode e.geom.start e.window) :=
        flatMap_range_eq_zip_valueIndices _ (fun i row hrow => by
          simp only [hrow, pointValues]
          split <;> rfl)
      obtain ⟨h9, h0⟩ : e.cfg[j].kind ≠ 9 ∧ e.cfg[j].kind ≠ 0 := by omega
      have hnone (h : e.period c = none) : f.status = .noResult := (hform rfl h9 h0 (formed_noPeriod hk h)).1
      refine ⟨fun hflat => hnone (periodOf_flat hmx hmn hflat), fun hswing ks hsorted hks => ⟨fun hfew => ?few, ?many⟩⟩
      case few => exact hnone (periodOf_fewCrossings hmx hmn hsorted (hvals ▸ hks) hfew)
      case many =>
        intro a ms b x y hends hx hlast period
        have hperiod : e.period c = some period :=
          periodOf_crossings hmx hmn hswing hsorted (hvals ▸ hks) hends (hvals ▸ hx) (hvals ▸ hlast)
        exact hform rfl h9 h0 (formed_period hk hperiod)

end Sys2Proof.Machine

/-! ### The cursor readout (O50) -/

namespace Sys2Proof.Machine

/-- A quotient without remainder is not changed by the rounding of R2. -/
theorem mul_roundDiv_of_dvd {a b : Int} (hb : 0 < b) (h : b ∣ a) : b * roundDiv a b = a := by
  obtain ⟨hle, hge, -, -⟩ := roundDiv_roundsTo a hb
  have hrest : b ∣ a - b * roundDiv a b := h.sub (dvd_mul_right b _)
  have hsmall : |a - b * roundDiv a b| < b := abs_lt.2 (by omega)
  have hzero := Int.eq_zero_of_abs_lt_dvd hrest hsmall
  omega

theorem cursorRead_answers (tag : Byte) (s : State) (htakes : s.takes 0x41 tag [] = true) :
    exec (.cursorRead tag []) s = .next (s.replied 0x41 tag (ownCursorRead [] s).1 (ownCursorRead [] s).2) := by
  have hexec : exec (.cursorRead tag []) s = request 0x41 (len 0) (readOnly ownCursorRead) tag [] s := rfl
  rw [hexec, request_readOnly htakes (len_self 0)]
  rfl

section
variable {s : State} {p : List Byte} {c : Fin 4}

/-! The times and voltages of R164. -/

theorem cursorTime_sub (a b : Int) : s.cursorTime b - s.cursorTime a = (b - a) * tdivOf (s.fld idTdiv) * 20 := by
  unfold State.cursorTime
  ring

/-- Columns that differ lie at times that differ. -/
theorem cursorSpan_ne_zero {a b : Int} (hab : a ≠ b) (htdiv : 0 < tdivOf (s.fld idTdiv)) :
    (b - a) * tdivOf (s.fld idTdiv) * 20 ≠ 0 := by
  have hcols : b - a ≠ 0 := sub_ne_zero.2 hab.symm
  positivity

/-- Every V_div of Table 9 is a multiple of 50 µV. -/
theorem cursorVolt_exact (h0 : 0 ≤ s.fld (idVdiv c)) (h12 : s.fld (idVdiv c) ≤ 12) (row : Int) :
    50 * s.cursorVolt c row = (200 - row - s.fld (idPos c)) * vdivOf (s.fld (idVdiv c)) := by
  have hvdiv : 50 ∣ vdivOf (s.fld (idVdiv c)) := (by decide : 50 ∣ 100).trans (vdivOf_range h0 h12).1
  exact mul_roundDiv_of_dvd (by decide) (dvd_mul_of_dvd_right (by exact_mod_cast hvdiv) _)

/-! The readout in each mode. -/

theorem ownCursorRead_off (h : s.fld idCursor = 0) : ownCursorRead p s = (.ok, cursorBytes 0 0 0 0 0 none) := by
  simp [ownCursorRead, h]

theorem ownCursorRead_time_same (h : s.fld idCursor = 1) (hcols : s.fld idTcurA = s.fld idTcurB) :
    ownCursorRead p s =
      (.ok, cursorBytes 1 0 (s.cursorTime (s.fld idTcurA)) (s.cursorTime (s.fld idTcurB)) 0 none) := by
  simp [ownCursorRead, h, hcols]

theorem ownCursorRead_time_apart (h : s.fld idCursor = 1) (hcols : s.fld idTcurA ≠ s.fld idTcurB)
    (htdiv : 0 < tdivOf (s.fld idTdiv)) :
    ownCursorRead p s =
      let d := (s.fld idTcurB - s.fld idTcurA) * tdivOf (s.fld idTdiv) * 20
      (.ok, cursorBytes 1 0 (s.cursorTime (s.fld idTcurA)) (s.cursorTime (s.fld idTcurB)) d
        (some (roundDiv 1000000000000000 d))) := by
  simp only [ownCursorRead, h, cursorTime_sub, cursorSpan_ne_zero hcols htdiv, if_true, if_false]

theorem ownCursorRead_volt (h : s.fld idCursor = 2) (hsrc : s.fld idCursrc = (c.val : Int)) :
    ownCursorRead p s =
      let a := s.cursorVolt c (s.fld idVcurA)
      let b := s.cursorVolt c (s.fld idVcurB)
      (.ok, cursorBytes 2 c.val a b (a - b) none) := by
  simp [ownCursorRead, h, hsrc]

end

/-- Settles O50: mode by mode, from the readout's equation; in VOLT the exact voltages are the ones read out. -/
theorem cursorReadoutIsComputed : Obligations.CursorReadoutIsComputed := by
  intro tag s htakes reads t
  have hreads {mode src : Nat} {a b d : Int} (r : Option Int)
      (h : ownCursorRead [] s = (.ok, cursorBytes mode src a b d r)) : reads mode src a b d r.isSome (r.getD 0) := by
    have hanswer := cursorRead_answers tag s htakes
    rw [h] at hanswer
    exact hanswer
  refine ⟨fun hoff => ?off, fun htime => ⟨fun hsame => ?same, fun hapart htdiv => ?apart⟩,
    fun c hvolt hsrc h0 h12 => ?volt⟩
  case off => exact hreads none (ownCursorRead_off hoff)
  case same => exact hreads none (ownCursorRead_time_same htime hsame)
  case apart => exact hreads (some _) (ownCursorRead_time_apart htime hapart htdiv)
  case volt =>
    exact ⟨s.cursorVolt c (s.fld idVcurA), s.cursorVolt c (s.fld idVcurB), cursorVolt_exact h0 h12 _,
      cursorVolt_exact h0 h12 _, hreads none (ownCursorRead_volt hvolt hsrc)⟩

end Sys2Proof.Machine
